-- ==== Sys2Proof/Word.lean ====
section
/-! DEFINITION. The word types of the FSE (spec/00_scope.md R8). -/

namespace Sys2Proof

/-- A 32-bit word: a packet word, a response word, a `u32` or an `s32` by its reader (R8). -/
abbrev Word := BitVec 32

/-- A byte: a `u8` pixel, or a byte of a serialised packet (R8, R79). -/
abbrev Byte := BitVec 8

end Sys2Proof
end

