-- ==== Sys2Proof/Syntax.lean ====
section
/-! DEFINITION. The command packet (spec/30_encoding.md R70) and the sixteen commands (R74). -/

namespace Sys2Proof

/-- One command packet: the command word `W0` and the operand words `A0`, `A1`, `A2` (R70). -/
structure Packet where
  /-- the command word (R71) -/
  w0 : Word
  /-- operand word `A0` -/
  w1 : Word
  /-- operand word `A1` -/
  w2 : Word
  /-- operand word `A2` -/
  w3 : Word
deriving DecidableEq, Repr

/-- The sixteen commands of R74, one constructor per row of the opcode table. `sel` is the selector of a
format S command, an unsigned number; an operand word a command uses is carried whole (R73), one it does
not use is ignored (R72) and is not carried. -/
inductive Instr where
  /-- `NOP` (R220) -/
  | nop
  /-- `NFBUILD` (R221) -/
  | nfbuild
  /-- `SHUTDOWN` (R222) -/
  | shutdown
  /-- `CONSTRUCT width, height` (R223) -/
  | construct (width height : Word)
  /-- `DESTROY` (R225) -/
  | destroy
  /-- `SETP sel, value` (R226) -/
  | setp (sel : Nat) (value : Word)
  /-- `GETP sel` (R227) -/
  | getp (sel : Nat)
  /-- `PROCESS frame_time` (R228) -/
  | process (frameTime : Word)
  /-- `WRPX sel, x, y, value` (R230) -/
  | wrpx (sel : Nat) (x y value : Word)
  /-- `RDPX sel, x, y` (R231) -/
  | rdpx (sel : Nat) (x y : Word)
  /-- `RNGNEXT` (R233) -/
  | rngnext
  /-- `RNGUNIF` (R234) -/
  | rngunif
  /-- `RNGBOUND n` (R235) -/
  | rngbound (n : Word)
  /-- `NFSAMPLE coordinate, amplitude, shift` (R236) -/
  | nfsample (coord amp shift : Word)
  /-- `NFREAD index` (R237) -/
  | nfread (index : Word)
  /-- `RDCSR sel` (R238) -/
  | rdcsr (sel : Nat)
deriving DecidableEq, Repr

end Sys2Proof
end

