-- ==== Sys2Proof/WellFormed.lean ====
section
/-! DEFINITION. Which terms of `Instr` the encoding of spec/30_encoding.md can carry. -/

namespace Sys2Proof

/-- The selector fits the eight bits `W0[15:8]` (R71, R72). A selector outside the command's legal values
is still well formed: the packet is legal and the command answers `ERR_INDEX` (R76). -/
abbrev SelFits (sel : Nat) : Prop := sel < 256

/-- The check on an instruction: a selector, where there is one, fits its field. Operand words are whole
32-bit words by their type (R73), so nothing is left to check of them. -/
abbrev WellFormed (i : Instr) : Prop :=
  match i with
  | .nop => True
  | .nfbuild => True
  | .shutdown => True
  | .construct _ _ => True
  | .destroy => True
  | .setp sel _ => SelFits sel
  | .getp sel => SelFits sel
  | .process _ => True
  | .wrpx sel _ _ _ => SelFits sel
  | .rdpx sel _ _ => SelFits sel
  | .rngnext => True
  | .rngunif => True
  | .rngbound _ => True
  | .nfsample _ _ _ => True
  | .nfread _ => True
  | .rdcsr sel => SelFits sel

end Sys2Proof
end

