-- ==== Sys2Proof/Decode.lean ====
section
/-! DEFINITION. The decoder and the encoder of command packets (spec/30_encoding.md R70 to R76, R79). -/

namespace Sys2Proof

/-- Why the decoder rejects an input. The first three are the grounds of R76; a rejected packet answers
`ERR_ILLEGAL`. The last is no packet at all (R70: a packet is exactly 128 bits), and no packet of the command
port is rejected with it. -/
inductive DecodeError where
  /-- `W0[31:16]` is not 0 -/
  | reservedNotZero
  /-- `op` is not one of the sixteen values of R74 -/
  | unassignedOp
  /-- the command's format is Z and `sel` is not 0 -/
  | selNotZero
  /-- the byte string is not 16 bytes long -/
  | notSixteenBytes
deriving DecidableEq, Repr

/-! ### Fields of the command word (R71) -/

/-- `op`, `W0[7:0]`. -/
def Packet.op (p : Packet) : BitVec 8 := p.w0.extractLsb' 0 8

/-- `sel`, `W0[15:8]`. -/
def Packet.sel (p : Packet) : BitVec 8 := p.w0.extractLsb' 8 8

/-- `rsv`, `W0[31:16]`. -/
def Packet.rsv (p : Packet) : BitVec 16 := p.w0.extractLsb' 16 16

/-- A command word from its selector and operation code, the reserved bits 0 (R72). -/
def commandWord (sel op : BitVec 8) : Word := 0#16 ++ sel ++ op

/-! ### The decoder -/

/-- A format Z command: `sel` must be 0 (R72). -/
def formatZ (p : Packet) (i : Instr) : Except DecodeError Instr :=
  if p.sel = 0 then .ok i else .error .selNotZero

/-- The command of a packet whose reserved bits are 0, by `op` (R74). -/
def decodeOp (p : Packet) : Except DecodeError Instr :=
  match p.op.toNat with
  | 0x00 => formatZ p .nop
  | 0x01 => formatZ p .nfbuild
  | 0x02 => formatZ p .shutdown
  | 0x10 => formatZ p (.construct p.w1 p.w2)
  | 0x11 => formatZ p .destroy
  | 0x12 => .ok (.setp p.sel.toNat p.w1)
  | 0x13 => .ok (.getp p.sel.toNat)
  | 0x14 => formatZ p (.process p.w1)
  | 0x20 => .ok (.wrpx p.sel.toNat p.w1 p.w2 p.w3)
  | 0x21 => .ok (.rdpx p.sel.toNat p.w1 p.w2)
  | 0x30 => formatZ p .rngnext
  | 0x31 => formatZ p .rngunif
  | 0x32 => formatZ p (.rngbound p.w1)
  | 0x33 => formatZ p (.nfsample p.w1 p.w2 p.w3)
  | 0x34 => formatZ p (.nfread p.w1)
  | 0x40 => .ok (.rdcsr p.sel.toNat)
  | _ => .error .unassignedOp

/-- The decoder: total, every packet is exactly one command or illegal by name (R76). -/
def decode (p : Packet) : Except DecodeError Instr :=
  if p.rsv = 0 then decodeOp p else .error .reservedNotZero

/-! ### The encoder -/

/-- The packet of a command: unused operand words are 0 (R77). -/
def encode (i : Instr) : Packet :=
  match i with
  | .nop => ⟨commandWord 0 0x00, 0, 0, 0⟩
  | .nfbuild => ⟨commandWord 0 0x01, 0, 0, 0⟩
  | .shutdown => ⟨commandWord 0 0x02, 0, 0, 0⟩
  | .construct w h => ⟨commandWord 0 0x10, w, h, 0⟩
  | .destroy => ⟨commandWord 0 0x11, 0, 0, 0⟩
  | .setp sel v => ⟨commandWord (BitVec.ofNat 8 sel) 0x12, v, 0, 0⟩
  | .getp sel => ⟨commandWord (BitVec.ofNat 8 sel) 0x13, 0, 0, 0⟩
  | .process t => ⟨commandWord 0 0x14, t, 0, 0⟩
  | .wrpx sel x y v => ⟨commandWord (BitVec.ofNat 8 sel) 0x20, x, y, v⟩
  | .rdpx sel x y => ⟨commandWord (BitVec.ofNat 8 sel) 0x21, x, y, 0⟩
  | .rngnext => ⟨commandWord 0 0x30, 0, 0, 0⟩
  | .rngunif => ⟨commandWord 0 0x31, 0, 0, 0⟩
  | .rngbound n => ⟨commandWord 0 0x32, n, 0, 0⟩
  | .nfsample coord amp shift => ⟨commandWord 0 0x33, coord, amp, shift⟩
  | .nfread index => ⟨commandWord 0 0x34, index, 0, 0⟩
  | .rdcsr sel => ⟨commandWord (BitVec.ofNat 8 sel) 0x40, 0, 0, 0⟩

/-- How many operand words a command uses, in the order `A0`, `A1`, `A2` (the table of R74); the others are
ignored (R72). -/
def Instr.operandWords (i : Instr) : Nat :=
  match i with
  | .nop => 0
  | .nfbuild => 0
  | .shutdown => 0
  | .construct _ _ => 2
  | .destroy => 0
  | .setp _ _ => 1
  | .getp _ => 0
  | .process _ => 1
  | .wrpx _ _ _ _ => 3
  | .rdpx _ _ _ => 2
  | .rngnext => 0
  | .rngunif => 0
  | .rngbound _ => 1
  | .nfsample _ _ _ => 3
  | .nfread _ => 1
  | .rdcsr _ => 0

/-! ### Serialisation: each word little-endian, `W0` first (R55, R79) -/

/-- The four bytes of a word, the byte of bits 7:0 first. -/
def wordBytes (w : Word) : List Byte :=
  [w.extractLsb' 0 8, w.extractLsb' 8 8, w.extractLsb' 16 8, w.extractLsb' 24 8]

/-- The word of four bytes, the byte of bits 7:0 first. -/
def wordOfBytes (b0 b1 b2 b3 : Byte) : Word := b3 ++ b2 ++ b1 ++ b0

/-- The sixteen bytes of a packet (R79). -/
def Packet.toBytes (p : Packet) : List Byte :=
  wordBytes p.w0 ++ wordBytes p.w1 ++ wordBytes p.w2 ++ wordBytes p.w3

/-- The packet of sixteen bytes, and none for any other length (R70, R79). -/
def Packet.ofBytes (bytes : List Byte) : Option Packet :=
  match bytes with
  | [a0, a1, a2, a3, b0, b1, b2, b3, c0, c1, c2, c3, d0, d1, d2, d3] =>
    some ⟨wordOfBytes a0 a1 a2 a3, wordOfBytes b0 b1 b2 b3, wordOfBytes c0 c1 c2 c3, wordOfBytes d0 d1 d2 d3⟩
  | _ => none

/-- The decoder on a byte string: total, rejecting by name. -/
def decodeBytes (bytes : List Byte) : Except DecodeError Instr :=
  match Packet.ofBytes bytes with
  | some p => decode p
  | none => .error .notSixteenBytes

/-! ### The opcode table's numbering: bit 0 is the least significant bit of `W0`, bits 63:32 are `W1`, and on -/

/-- The packet whose bits below `nbits` are those of `w`, in the opcode table's numbering, the rest 0. -/
def Packet.ofTableWord (nbits w : Nat) : Packet :=
  let v := w % 2 ^ nbits
  ⟨BitVec.ofNat 32 v, BitVec.ofNat 32 (v / 2 ^ 32), BitVec.ofNat 32 (v / 2 ^ 64), BitVec.ofNat 32 (v / 2 ^ 96)⟩

/-- What the decoder reads from the instruction whose bits are `w`, laid out in bytes (R79). -/
def decodeTableWord (nbits w : Nat) : Option Instr :=
  match decodeBytes (Packet.ofTableWord nbits w).toBytes with
  | .ok i => some i
  | .error _ => none

end Sys2Proof
end

