-- ==== Sys2Proof/Config.lean ====
section
/-! DEFINITION. The configuration (spec/00_scope.md R5, R6) and the free values of the model. -/

namespace Sys2Proof

/-- The four controls `P[0..3]`, each a signed Q16.16 numerator (spec/10_state.md R24). -/
structure Params where
  /-- `P[0]`, random ignition -/
  rnd : Word
  /-- `P[1]`, edge-triggered -/
  edge : Word
  /-- `P[2]`, saturation-triggered -/
  sat : Word
  /-- `P[3]`, background noise -/
  noise : Word
deriving DecidableEq, Repr

/-- The implementation parameters of R5, in the order of its table. The configuration is not state (R33):
every operation takes it as an argument, and the values the table calls default stand in
`Sys2Proof.Machine.fse`. -/
structure Config where
  /-- `NOISE_LOG2` -/
  noiseLog2 : Nat
  /-- `NOISE_SHIFT` -/
  noiseShift : Nat
  /-- `NOISE_AMP` -/
  noiseAmp : Nat
  /-- `NOISE_CTR0` -/
  noiseCtr0 : Word
  /-- `NOISE_KEY` -/
  noiseKey : Word
  /-- `INST_CTR0` -/
  instCtr0 : Word
  /-- `INST_KEY` -/
  instKey : Word
  /-- `RNG_MIX`: any total function (R121) -/
  rngMix : Word → Word
  /-- `K_R`, a Q16.16 numerator -/
  kR : Nat
  /-- `K_L`, a Q16.16 numerator -/
  kL : Nat
  /-- `K_C`, a Q16.16 numerator -/
  kC : Nat
  /-- `JITTER_SCALE`, a Q16.16 numerator -/
  jitterScale : Nat
  /-- `EDGE_LO`, a Q16.16 numerator -/
  edgeLo : Int
  /-- `EDGE_SPAN`, a Q16.16 numerator -/
  edgeSpan : Int
  /-- `EDGE_NORM_LOG2`, fixed at 10 -/
  edgeNormLog2 : Nat
  /-- `CHROMA_NORM_LOG2`, fixed at 8 -/
  chromaNormLog2 : Nat
  /-- `FIRE_CEIL` -/
  fireCeil : Nat
  /-- `FIRE_MIN` -/
  fireMin : Nat
  /-- `RAMP_LEN` -/
  rampLen : Nat
  /-- `RAMP_NUM` -/
  rampNum : Int
  /-- `RAMP_DEN` -/
  rampDen : Nat
  /-- `STEP_DIV` -/
  stepDiv : Nat
  /-- `STEP_MIN` -/
  stepMin : Nat
  /-- `MAX_DIM` -/
  maxDim : Nat
  /-- `N_INST`, fixed at 1 -/
  nInst : Nat
  /-- `P_DEFAULT[0..3]` -/
  pDefault : Params
  /-- `FSE_ID` -/
  fseId : Word

/-- `NOISE_LEN` = 2^`NOISE_LOG2` (R5). -/
def Config.noiseLen (c : Config) : Nat := 2 ^ c.noiseLog2

/-- `PHASE_BOUND` = `NOISE_LEN` · 2^`NOISE_SHIFT` (R5). -/
def Config.phaseBound (c : Config) : Nat := c.noiseLen * 2 ^ c.noiseShift

/-- The constraints of R5 and R6: a configuration that breaks one is rejected (spec/93 U5, U6). That
`RAMP_DEN` is positive is R11's "every divisor is a positive constant" (log entry 7). -/
structure Config.Valid (c : Config) : Prop where
  noiseLog2 : 1 ≤ c.noiseLog2 ∧ c.noiseLog2 ≤ 16
  noiseShift : c.noiseShift ≤ 8
  noiseAmp : c.noiseAmp ≤ 255
  edgeNormLog2 : c.edgeNormLog2 = 10
  chromaNormLog2 : c.chromaNormLog2 = 8
  fireCeil : 256 ≤ c.fireCeil
  fireMin : 1 ≤ c.fireMin
  rampLen : 1 ≤ c.rampLen
  rampDen : 1 ≤ c.rampDen
  stepDiv : 1 ≤ c.stepDiv
  stepMin : 1 ≤ c.stepMin
  maxDim : 2 ≤ c.maxDim ∧ c.maxDim % 2 = 0
  nInst : c.nInst = 1

/-- The register widths of spec/10_state.md R20 are those of the defaults; they hold every value of a
configuration that keeps these bounds (log entry 8). -/
structure Config.FitsWidths (c : Config) : Prop where
  maxDim : c.maxDim ≤ 4096
  fireCeil : c.fireCeil ≤ 512
  stepMin : c.stepMin ≤ 63
  stepCeil : c.fireCeil / c.stepDiv ≤ 63

/-- FREE VALUE (log entry 4): the byte at an address of a plane memory that nothing has written since the
planes last became unspecified (spec/20_memory.md R59, spec/93 U3 "an arbitrary `u8`, fixed once read"). The
arguments are the count of those moments, the plane's number (0 luma, 1 Cb, 2 Cr) and the address. -/
opaque Config.freePlaneByte : Nat → Nat → Nat → Byte

/-- FREE VALUE (log entry 5): the lattice word at an index that nothing has written (spec/10_state.md R40,
spec/93 U9). No reachable state reads one. -/
opaque Config.freeLatticeWord : Nat → Word

end Sys2Proof
end

