-- ==== Sys2Proof/Machine/Arith.lean ====
section
/-! DEFINITION. The arithmetic primitives of spec/00_scope.md R8, R10 and R11. -/

namespace Sys2Proof.Machine

/-- `truncz(a / b)` of R10, for `b > 0`: truncation toward zero. -/
def truncz (a : Int) (b : Nat) : Int := if 0 ≤ a then a / b else -((-a) / b)

/-- `clamp8(v)` of R10: the only saturating operation (R11). -/
def clamp8 (v : Int) : Byte := if v < 0 then 0 else if 255 < v then 255 else BitVec.ofInt 8 v

/-- The absolute difference of two unsigned quantities, `abs(a - b)` (R10). -/
def absDiff (a b : Nat) : Nat := ((a : Int) - (b : Int)).natAbs

/-- `fmix32` (spec/41_prng.md R121), the default of `RNG_MIX`; every operation is modulo 2^32. -/
def fmix32 (h : Word) : Word :=
  let h1 := h ^^^ (h >>> 16)
  let h2 := h1 * 0x85EBCA6B#32
  let h3 := h2 ^^^ (h2 >>> 13)
  let h4 := h3 * 0xC2B2AE35#32
  h4 ^^^ (h4 >>> 16)

end Sys2Proof.Machine
end

