-- ==== Sys2Proof/Machine/Defaults.lean ====
section
/-! DEFINITION. The configuration `exec` and `step` run at: the defaults of spec/00_scope.md R5 (log entry 7). -/

namespace Sys2Proof.Machine

/-- The default column of the table of R5. -/
def fse : Config where
  noiseLog2 := 12
  noiseShift := 4
  noiseAmp := 64
  noiseCtr0 := 0x00000000#32
  noiseKey := 0x7F4A7C15#32
  instCtr0 := 0x00000F01#32
  instKey := 0x9E3779B9#32
  rngMix := fmix32
  kR := 65536
  kL := 131072
  kC := 65536
  jitterScale := 65536
  edgeLo := 19661
  edgeSpan := 26214
  edgeNormLog2 := 10
  chromaNormLog2 := 8
  fireCeil := 256
  fireMin := 16
  rampLen := 6
  rampNum := 15
  rampDen := 100
  stepDiv := 8
  stepMin := 4
  maxDim := 4096
  nInst := 1
  pDefault := ⟨655#32, 19661#32, 31457#32, 8520#32⟩
  fseId := 0x53454346#32

end Sys2Proof.Machine
end

