-- ==== Sys2Proof/Machine/State.lean ====
section
/-! DEFINITION. The state of the FSE (spec/10_state.md R20), its reset value (R40), and the reasons a step could stop. -/

namespace Sys2Proof.Machine

/-- Contents of a memory: what has been written, as pairs of address and unit, in rising order of address.
The plane memories hold bytes (`Memory 8` is a list of `Host.Cell`), the lattice memory `NF` 32-bit words. -/
abbrev Memory (w : Nat) := List (Nat × BitVec w)

/-- The canonical form: addresses strictly rising. An unlisted address has no value in the list (its value is
a free one), so no entry can equal what an unlisted address reads as (log entry 5). -/
abbrev Memory.wf {w : Nat} (m : Memory w) : Prop := m.Pairwise (fun e f => e.1 < f.1)

/-- The chroma planes, and the register `PL` (R31): 0 = Cb, 1 = Cr. -/
inductive Chroma where
  /-- chroma-blue, `CM[0]` -/
  | cb
  /-- chroma-red, `CM[1]` -/
  | cr
deriving DecidableEq, Repr

/-- The three plane memories (spec/20_memory.md R50). -/
inductive Plane where
  /-- `YM` -/
  | luma
  /-- `CM[pl]` -/
  | chroma (pl : Chroma)
deriving DecidableEq, Repr

/-- The four controls by name (spec/30_encoding.md R77). -/
inductive Param where
  /-- `P[0]` -/
  | rnd
  /-- `P[1]` -/
  | edge
  /-- `P[2]` -/
  | sat
  /-- `P[3]` -/
  | noise
deriving DecidableEq, Repr

/-- The control and status registers of R36. -/
inductive Csr where
  /-- 0x00 -/
  | id
  /-- 0x01 -/
  | status
  /-- 0x02 -/
  | lastErr
  /-- 0x03 -/
  | width
  /-- 0x04 -/
  | height
  /-- 0x05 -/
  | cw
  /-- 0x06 -/
  | ch
  /-- 0x08 to 0x0B -/
  | param (p : Param)
  /-- 0x10 -/
  | rngCtr
  /-- 0x11 -/
  | rngKey
deriving DecidableEq, Repr

/-- The status codes of spec/60_exceptions.md R260. -/
inductive Status where
  /-- the command completed -/
  | ok
  /-- `ERR_ILLEGAL` -/
  | errIllegal
  /-- `ERR_FATAL` -/
  | errFatal
  /-- `ERR_NOT_READY` -/
  | errNotReady
  /-- `ERR_NO_INSTANCE` -/
  | errNoInstance
  /-- `ERR_EXISTS` -/
  | errExists
  /-- `ERR_INDEX` -/
  | errIndex
  /-- `ERR_DIM` -/
  | errDim
  /-- `ERR_RANGE` -/
  | errRange
  /-- `ERR_NOMEM` -/
  | errNomem
deriving DecidableEq, Repr

/-- A response: two 32-bit words (spec/30_encoding.md R75). -/
structure Response where
  /-- `R0`: the status code, zero-extended -/
  r0 : Word
  /-- `R1`: the result word -/
  r1 : Word
deriving DecidableEq, Repr

/-- What the host and the environment do to the block (spec/60_exceptions.md R276): deliver a packet, with the
Boolean `env.nf_mem_ok` that the environment chose for it, or reset the block between commands
(spec/70_reset_and_hazards.md R290). -/
inductive Event where
  /-- a packet at the command port, and `env.nf_mem_ok` while it executes -/
  | packet (p : Packet) (nfMemOk : Bool)
  /-- the reset event -/
  | reset
deriving DecidableEq, Repr

/-- The state. The fields up to `cx` are the tuple of R20; the last four are the model's own (log entries 1 to 4). -/
structure State where
  /-- `NF_READY` (R21) -/
  nfReady : Bool
  /-- `INST_VALID` (R21) -/
  instValid : Bool
  /-- `FATAL` (R21) -/
  fatal : Bool
  /-- `LASTERR` (R22) -/
  lastErr : BitVec 8
  /-- `WIDTH` (R23) -/
  width : BitVec 13
  /-- `HEIGHT` (R23) -/
  height : BitVec 13
  /-- `CW` (R23) -/
  cw : BitVec 12
  /-- `CH` (R23) -/
  ch : BitVec 12
  /-- `P[0..3]` (R24) -/
  params : Params
  /-- `RNG_CTR` (R25) -/
  rngCtr : Word
  /-- `RNG_KEY` (R25) -/
  rngKey : Word
  /-- the lattice `L`, memory `NF` (R26), by word index -/
  nf : Memory 32
  /-- `YM` (R27) -/
  ym : Memory 8
  /-- `CM[0]`, Cb (R27) -/
  cb : Memory 8
  /-- `CM[1]`, Cr (R27) -/
  cr : Memory 8
  /-- `FIRE`, signed (R28) -/
  fire : BitVec 10
  /-- `STEP` (R28) -/
  fireStep : BitVec 6
  /-- `IGN` (R28) -/
  ign : BitVec 11
  /-- `PHASE` (R29) -/
  phase : BitVec 24
  /-- `CY` (R31) -/
  cy : BitVec 11
  /-- `PL` (R31) -/
  pl : Chroma
  /-- `CX` (R31) -/
  cx : BitVec 11
  /-- model: how often the plane memories have become unspecified -/
  epoch : Nat
  /-- model: the environment input `env.nf_mem_ok` of the command in execution (R33) -/
  nfMemOk : Bool
  /-- model: what the host will deliver, in order -/
  inbox : List Event
  /-- model: the responses returned so far, newest first -/
  outbox : List Response
deriving DecidableEq, Repr

/-- Reasons a step faults: none. The step relation of the spec is a total function and every error is a status
code of the response (spec/60_exceptions.md R265, R276). Safe: there is nothing to raise. -/
inductive Fault where
deriving DecidableEq, Repr

/-- Reasons a step is refused. -/
inductive Refusal where
  /-- Raised by an arm of `exec` whose instruction has no meaning yet; no arm raises it. Safe: a refused
  instruction proves nothing. -/
  | notModelled (mnemonic : String)
deriving DecidableEq, Repr

/-- The outcome of one step of this machine. -/
abbrev Result := Host.Outcome State Fault Refusal

/-- The state after reset (R40). The memories list nothing: their contents are unspecified (R292). The model's
own fields start with nothing delivered and nothing answered (log entries 1 to 4). -/
def State.reset : State where
  nfReady := false
  instValid := false
  fatal := false
  lastErr := 0
  width := 0
  height := 0
  cw := 0
  ch := 0
  params := ⟨0, 0, 0, 0⟩
  rngCtr := 0
  rngKey := 0
  nf := []
  ym := []
  cb := []
  cr := []
  fire := 0
  fireStep := 0
  ign := 0
  phase := 0
  cy := 0
  pl := .cb
  cx := 0
  epoch := 0
  nfMemOk := true
  inbox := []
  outbox := []

end Sys2Proof.Machine
end

