-- ==== Sys2Proof/Machine/Flags.lean ====
section
/-! DEFINITION. The status codes (spec/60_exceptions.md R260) and the `STATUS` word (spec/10_state.md R36, R37).
The block has no arithmetic condition codes (R21). -/

namespace Sys2Proof.Machine

/-- The code of a status (R260). -/
def Status.code (st : Status) : BitVec 8 :=
  match st with
  | .ok => 0x00
  | .errIllegal => 0x01
  | .errFatal => 0x02
  | .errNotReady => 0x03
  | .errNoInstance => 0x04
  | .errExists => 0x05
  | .errIndex => 0x06
  | .errDim => 0x07
  | .errRange => 0x08
  | .errNomem => 0x09

/-- The `STATUS` register: bit 0 `NF_READY`, bit 1 `INST_VALID`, bit 2 `FATAL`, bits 31:3 zero (R37). -/
def State.statusWord (s : State) : Word :=
  0#29 ++ BitVec.ofBool s.fatal ++ BitVec.ofBool s.instValid ++ BitVec.ofBool s.nfReady

end Sys2Proof.Machine
end

