-- ==== Sys2Proof/Machine/Operands.lean ====
section
/-! DEFINITION. How a command reads its operands (spec/30_encoding.md R73): operand words as `u32` or `s32`,
selectors as a parameter, a plane or a register. -/

namespace Sys2Proof.Machine

/-- An operand word read as `u32`, `zext_32` (R73). -/
def u32 (w : Word) : Nat := w.toNat

/-- An operand word or a parameter register read as `s32`, `sext_32` (R73). -/
def s32 (w : Word) : Int := w.toInt

/-- The parameter a selector names, `sel` ≤ 3 (spec/10_state.md R24, R77). -/
def Param.ofSel (sel : Nat) : Option Param :=
  match sel with
  | 0 => some .rnd
  | 1 => some .edge
  | 2 => some .sat
  | 3 => some .noise
  | _ => none

/-- The plane a selector names, `sel` ≤ 2 (spec/45_host_commands.md R230). -/
def Plane.ofSel (sel : Nat) : Option Plane :=
  match sel with
  | 0 => some .luma
  | 1 => some (.chroma .cb)
  | 2 => some (.chroma .cr)
  | _ => none

/-- The register a selector names; the numbers not in the table of R36 are reserved. -/
def Csr.ofSel (sel : Nat) : Option Csr :=
  match sel with
  | 0x00 => some .id
  | 0x01 => some .status
  | 0x02 => some .lastErr
  | 0x03 => some .width
  | 0x04 => some .height
  | 0x05 => some .cw
  | 0x06 => some .ch
  | 0x08 => some (.param .rnd)
  | 0x09 => some (.param .edge)
  | 0x0A => some (.param .sat)
  | 0x0B => some (.param .noise)
  | 0x10 => some .rngCtr
  | 0x11 => some .rngKey
  | _ => none

/-- The number of a plane, the inverse of its selector. -/
def Plane.number (p : Plane) : Nat :=
  match p with
  | .luma => 0
  | .chroma .cb => 1
  | .chroma .cr => 2

end Sys2Proof.Machine
end

