-- ==== Sys2Proof/Machine/Ops.lean ====
section
/-! DEFINITION. The shared operations over memory, registers and the command port, and the error response that
takes an exception's place (spec/60_exceptions.md R265 to R267). -/

namespace Sys2Proof.Machine

/-! ### Memory (spec/20_memory.md R50, R57, R60) -/

/-- The unit at an address, if it has been written. -/
def Memory.read {w : Nat} (m : Memory w) (a : Nat) : Option (BitVec w) :=
  match m with
  | [] => none
  | (b, v) :: rest => if a = b then some v else Memory.read rest a

/-- Writes one unit and keeps the addresses rising. -/
def Memory.write {w : Nat} (m : Memory w) (a : Nat) (v : BitVec w) : Memory w :=
  match m with
  | [] => [(a, v)]
  | (b, u) :: rest =>
    if a < b then (a, v) :: (b, u) :: rest
    else if a = b then (a, v) :: rest
    else (b, u) :: Memory.write rest a v

/-- The contents of a plane memory. -/
def State.memory (s : State) (p : Plane) : Memory 8 :=
  match p with
  | .luma => s.ym
  | .chroma .cb => s.cb
  | .chroma .cr => s.cr

/-- `MemRead(plane, a, 1)`: a byte nothing has written is a free value, the same at every read of it (R59). -/
def State.readPlane (s : State) (p : Plane) (a : Nat) : Byte :=
  (Memory.read (s.memory p) a).getD (Config.freePlaneByte s.epoch p.number a)

/-- `MemWrite(plane, a, 1, v)`. -/
def State.writePlane (s : State) (p : Plane) (a : Nat) (v : Byte) : State :=
  match p with
  | .luma => { s with ym := Memory.write s.ym a v }
  | .chroma .cb => { s with cb := Memory.write s.cb a v }
  | .chroma .cr => { s with cr := Memory.write s.cr a v }

/-- `L[i] = MemRead(NF, i, 4)` (R10). -/
def State.lattice (s : State) (i : Nat) : Word :=
  (Memory.read s.nf i).getD (Config.freeLatticeWord i)

/-- The plane memories become unspecified: nothing is listed, and the free bytes are new ones (spec/93 U3). -/
def State.forgetPlanes (s : State) : State :=
  { s with ym := [], cb := [], cr := [], epoch := s.epoch + 1 }

/-! ### Plane geometry (R52) -/

/-- Width of a plane in pixels. -/
def State.planeWidth (s : State) (p : Plane) : Nat :=
  match p with
  | .luma => s.width.toNat
  | .chroma _ => s.cw.toNat

/-- Height of a plane in pixels. -/
def State.planeHeight (s : State) (p : Plane) : Nat :=
  match p with
  | .luma => s.height.toNat
  | .chroma _ => s.ch.toNat

/-- The address of pixel (x, y) of a plane: row-major, tightly packed (R52). -/
def State.pixelAddr (s : State) (p : Plane) (y x : Nat) : Nat := y * s.planeWidth p + x

/-- `Y[y][x]` (R10). -/
def State.lumaAt (s : State) (y x : Nat) : Byte := s.readPlane .luma (s.pixelAddr .luma y x)

/-- `C[pl][y][x]` (R10). -/
def State.chromaAt (s : State) (pl : Chroma) (y x : Nat) : Byte :=
  s.readPlane (.chroma pl) (s.pixelAddr (.chroma pl) y x)

/-- `C[pl][y][x] <- v` (R10). -/
def State.setChroma (s : State) (pl : Chroma) (y x : Nat) (v : Byte) : State :=
  s.writePlane (.chroma pl) (s.pixelAddr (.chroma pl) y x) v

/-! ### Parameter registers (spec/10_state.md R24) -/

/-- `P[i]`. -/
def State.getParam (s : State) (p : Param) : Word :=
  match p with
  | .rnd => s.params.rnd
  | .edge => s.params.edge
  | .sat => s.params.sat
  | .noise => s.params.noise

/-- `P[i] <- v`. -/
def State.setParam (s : State) (p : Param) (v : Word) : State :=
  match p with
  | .rnd => { s with params := { s.params with rnd := v } }
  | .edge => { s with params := { s.params with edge := v } }
  | .sat => { s with params := { s.params with sat := v } }
  | .noise => { s with params := { s.params with noise := v } }

/-! ### The response, and the error response -/

/-- Returns the response `R0` = status code, `R1` = result (spec/30_encoding.md R75). -/
def State.respond (s : State) (st : Status) (result : Word) : State :=
  { s with outbox := ⟨st.code.setWidth 32, result⟩ :: s.outbox }

/-- The eight bytes of a response, `R0` then `R1`, each little-endian (R79). -/
def Response.toBytes (r : Response) : List Byte := wordBytes r.r0 ++ wordBytes r.r1

/-- `respond(OK, v)` (R10): the command completes; `LASTERR` is not written (R266). -/
def complete (s : State) (result : Word) : Result := .next (s.respond .ok result)

/-- `raise <Status>` (R10): TAKING AN EXCEPTION on this block. The response carries the status and the result 0,
`LASTERR` takes the code, nothing else is written (R265, R266). The return is implicit: the state is ready for
the next packet (R267). -/
def raise (s : State) (st : Status) : Result := .next ({ s with lastErr := st.code }.respond st 0)

/-! ### Admission checks, in the order of R263 -/

/-- Step 2: `ERR_FATAL` in the `FATAL` state. -/
def admitNotFatal (s : State) (k : Result) : Result := if s.fatal then raise s .errFatal else k

/-- Steps 2 and 3, for the commands that need the noise field. -/
def admitField (s : State) (k : Result) : Result :=
  admitNotFatal s (if s.nfReady then k else raise s .errNotReady)

/-- Steps 2 and 4, for the commands that need an effect instance. -/
def admitInstance (s : State) (k : Result) : Result :=
  admitNotFatal s (if s.instValid then k else raise s .errNoInstance)

/-! ### Reset (spec/70_reset_and_hazards.md R290) and the command port (R70, R276) -/

/-- The reset event, and the effect of `SHUTDOWN` on the state elements: every element of R20 takes its reset
value and the memories become unspecified. The host's side of the port is no state element and stays. -/
def State.resetBlock (s : State) : State :=
  { State.reset with epoch := s.epoch + 1, nfMemOk := s.nfMemOk, inbox := s.inbox, outbox := s.outbox }

/-- Takes the next event the host delivers, with the state in which it finds the block. -/
def State.takeEvent (s : State) : Option (Event × State) :=
  match s.inbox with
  | [] => none
  | e :: rest => some (e, { s with inbox := rest })

/-- The state in which a packet executes: the environment's Boolean for it is at the port (R221, R276). -/
def State.withEnv (s : State) (nfMemOk : Bool) : State := { s with nfMemOk := nfMemOk }

/-- Delivers a packet as the host's next one, with the environment input as it stands. -/
def State.deliver (s : State) (p : Packet) : State := { s with inbox := .packet p s.nfMemOk :: s.inbox }

end Sys2Proof.Machine
end

