-- ==== Sys2Proof/Machine/Prng.lean ====
section
/-! DEFINITION. The pseudo-random stream (spec/41_prng.md). -/

namespace Sys2Proof.Machine

/-- The output of the generator at a counter: `RNG_MIX(counter ^ key)` (R122). -/
def mixAt (c : Config) (ctr key : Word) : Word := c.rngMix (ctr ^^^ key)

/-- `RNG.SEED` (R120). -/
def rngSeed (c : Config) (s : State) : State := { s with rngCtr := c.instCtr0, rngKey := c.instKey }

/-- The state after one draw: the counter advances by one, modulo 2^32 (R122). -/
def rngAdvance (s : State) : State := { s with rngCtr := s.rngCtr + 1 }

/-- The raw draw, from the counter after the increment (R122). -/
def rngRaw (c : Config) (s : State) : Word := mixAt c (s.rngCtr + 1) s.rngKey

/-- `RNG.NEXT` (R122): the raw draw and the state after it. -/
def rngNext (c : Config) (s : State) : Word × State := (rngRaw c s, rngAdvance s)

/-- `RNG.UNIF` (R123): the bits of `RNG.NEXT`, read as a UQ0.32 numerator. -/
def rngUnif (c : Config) (s : State) : Word × State := rngNext c s

/-- The bounded value of a raw draw, `(raw * n) >> 32` (R125). -/
def boundedOf (raw : Word) (n : Nat) : Nat := raw.toNat * n / 2 ^ 32

/-- `RNG.BOUND(n)` (R125): always one draw. -/
def rngBound (c : Config) (n : Nat) (s : State) : Nat × State :=
  (boundedOf (rngNext c s).1 n, (rngNext c s).2)

end Sys2Proof.Machine
end

