-- ==== Sys2Proof/Machine/Noise.lean ====
section
/-! DEFINITION. The noise field: the lattice and the interpolator (spec/40_noise_field.md). -/

namespace Sys2Proof.Machine

/-! ### NF.BUILD (R101) -/

/-- `n` consecutive draws of the lattice generator from counter `ctr`, at indices `i`, `i + 1`, ... -/
def latticeFrom (c : Config) (n i : Nat) (ctr : Word) : Memory 32 :=
  match n with
  | 0 => []
  | n + 1 => (i, mixAt c (ctr + 1) c.noiseKey) :: latticeFrom c n (i + 1) (ctr + 1)

/-- The table `NF.BUILD` fills: a function of the configuration alone (R101). -/
def latticeTable (c : Config) : Memory 32 := latticeFrom c c.noiseLen 0 c.noiseCtr0

/-- `NF.BUILD` (R101). It reads and writes no instance register. -/
def nfBuild (c : Config) (s : State) : State := { s with nf := latticeTable c }

/-! ### NF.SAMPLE (R102 to R105) -/

/-- D = 2^(3·sh) (R103). -/
def sampleDen (sh : Nat) : Nat := 2 ^ (3 * sh)

/-- The smoothstep numerator `sn` of the fraction `tn / 2^sh` (R103). -/
def smoothstep (sh tn : Nat) : Nat := 3 * tn ^ 2 * 2 ^ sh - 2 * tn ^ 3

/-- A lattice index, wrapped by masking (R54, R104): `NOISE_LEN` is a power of two. -/
def maskIndex (c : Config) (i : Nat) : Nat := i &&& (c.noiseLen - 1)

/-- `vn`, the interpolated value over D · 2^32, of a lattice `L` at a coordinate (R102, R103, R104). -/
def sampleNum (c : Config) (L : Nat → Word) (coord sh : Nat) : Nat :=
  let i := coord / 2 ^ sh
  let sn := smoothstep sh (coord % 2 ^ sh)
  (L (maskIndex c i)).toNat * (sampleDen sh - sn) + (L (maskIndex c (i + 1))).toNat * sn

/-- The sample as a Q16.16 numerator, truncated toward zero: the result of `NFSAMPLE` (R106). -/
def sampleQ16 (c : Config) (L : Nat → Word) (coord : Nat) (an : Int) (sh : Nat) : Int :=
  truncz (sampleNum c L coord sh * an) (sampleDen sh * 2 ^ 32)

/-- The sample truncated toward zero to an integer: the delta `ND` of `NOISE.INJECT` (R105, R182). -/
def sampleDelta (c : Config) (L : Nat → Word) (coord : Nat) (an : Int) (sh : Nat) : Int :=
  truncz (sampleNum c L coord sh * an) (sampleDen sh * 2 ^ 48)

end Sys2Proof.Machine
end

