-- ==== Sys2Proof/Machine/BlockCommands.lean ====
section
/-! DEFINITION. The block-level commands `NOP`, `NFBUILD`, `SHUTDOWN` (spec/45_host_commands.md R220 to R222), and
the answer to an illegal packet (spec/60_exceptions.md R261). -/

namespace Sys2Proof.Machine

/-- An illegal packet: `ERR_ILLEGAL`, `LASTERR <- 0x01`, nothing else changes, in every state (R261). -/
def illegalPacket (s : State) : Result := raise s .errIllegal

/-- `NOP` (R220): no checks, no state written. -/
def execNop (s : State) : Result := complete s 0

/-- `NFBUILD` (R221) at a configuration. Already built: nothing is rebuilt and the environment is not read. -/
def nfbuildAt (c : Config) (s : State) : Result :=
  admitNotFatal s <|
    if s.nfReady then complete s 0
    else if s.nfMemOk then complete { nfBuild c s with nfReady := true } 0
    else raise { s with fatal := true } .errNomem

/-- `NFBUILD` (R221). -/
def execNfbuild (s : State) : Result := nfbuildAt fse s

/-- `SHUTDOWN` (R222): no checks; every state element takes its reset value. -/
def execShutdown (s : State) : Result := complete s.resetBlock 0

end Sys2Proof.Machine
end

