-- ==== Sys2Proof/Machine/Detect.lean ====
section
/-! DEFINITION. The parameter model (spec/42_params.md) and the edge and saturation detectors
(spec/43_detectors.md). -/

namespace Sys2Proof.Machine

/-! ### Thresholds, as numerators over 2^48 (R142), and the noise amplitude -/

/-- `THR_R_N` (R143). -/
def thrRnd (c : Config) (p0 : Int) : Int := 2 ^ 48 - c.kR * p0 * p0

/-- `THR_L_N` (R144). -/
def thrLuma (c : Config) (p1 : Int) : Int := 2 ^ 48 - c.kL * p1 * 2 ^ 16

/-- `THR_C_N` (R145). -/
def thrChroma (c : Config) (p2 : Int) : Int := 2 ^ 48 - c.kC * p2 * 2 ^ 16

/-- `AN`, the noise amplitude as a Q16.16 numerator (R147). -/
def noiseAmplitude (c : Config) (p3 : Int) : Int := p3 * c.noiseAmp

/-- `p0`, `p1`, `p2`, `p3` of R140: a control register as a signed integer. -/
def State.control (s : State) (p : Param) : Int := s32 (s.getParam p)

/-! ### EDGE.DELTA (R160 to R162) -/

/-- The sum of the 2×2 luma block whose top-left corner is (x, y) (spec/20_memory.md R53). -/
def lumaBlock (s : State) (y x : Nat) : Nat :=
  (s.lumaAt y x).toNat + (s.lumaAt y (x + 1)).toNat + (s.lumaAt (y + 1) x).toNat + (s.lumaAt (y + 1) (x + 1)).toNat

/-- `DN` (R160): the difference of the blocks at the column and at its right neighbour. -/
def edgeDiff (s : State) (cy cx : Nat) : Nat :=
  absDiff (lumaBlock s (2 * cy) (2 * cx)) (lumaBlock s (2 * cy) (2 * cx + 2))

/-- `EDGE_N` of a block difference (R161): the remap into the sub-range, over 2^26. -/
def edgeRemap (c : Config) (dn : Nat) : Int := c.edgeLo * 2 ^ c.edgeNormLog2 + dn * c.edgeSpan

/-- The edge value of a column: `EDGE.DELTA` if the edge control is positive and the column is not the last, and 0
otherwise (R148, R160, R162). -/
def edgeValue (c : Config) (s : State) (cy cx : Nat) : Int :=
  if 0 < s.control .edge ∧ cx + 1 ≠ s.cw.toNat then edgeRemap c (edgeDiff s cy cx) else 0

/-! ### CHROMA.DELTA, JITTER and IGN.TEST -/

/-- `CHROMA.DELTA(cy, cx)` (R163), from the current contents of both planes. -/
def chromaDiff (s : State) (cy cx : Nat) : Nat :=
  absDiff (s.chromaAt .cb cy cx).toNat (s.chromaAt .cr cy cx).toNat

/-- `JITTER(UJ)`, over 2^48 (R164). -/
def jitter (c : Config) (uj : Word) : Int := c.jitterScale * uj.toNat

/-- `c_rnd` (R165, R166). -/
def rndFires (c : Config) (s : State) (ui : Word) : Bool :=
  thrRnd c (s.control .rnd) < ui.toNat * 2 ^ 16

/-- `c_chroma` (R165, R166). -/
def chromaFires (c : Config) (s : State) (uj : Word) (cdn : Nat) : Bool :=
  thrChroma c (s.control .sat) + jitter c uj < cdn * 2 ^ (48 - c.chromaNormLog2)

/-- `c_edge` (R165, R166). -/
def edgeFires (c : Config) (s : State) (uj : Word) (edgeN : Int) : Bool :=
  thrLuma c (s.control .edge) + jitter c uj < edgeN * 2 ^ (48 - (16 + c.edgeNormLog2))

/-- `IGN.TEST(UI, UJ, CD_N, EDGE_N)` (R165, R166). -/
def ignTest (c : Config) (s : State) (ui uj : Word) (cdn : Nat) (edgeN : Int) : Bool :=
  rndFires c s ui || chromaFires c s uj cdn || edgeFires c s uj edgeN

end Sys2Proof.Machine
end

