-- ==== Sys2Proof/Machine/Fire.lean ====
section
/-! DEFINITION. The fire synthesis engine: saturating pixel writes, noise injection, the decay accumulator, the column
step and the traversal of one frame (spec/44_fire_engine.md). -/

namespace Sys2Proof.Machine

/-! ### Saturating pixel writes -/

/-- `PIX.ADDSAT(pl, y, x, d)` (R180). -/
def pixAddSat (pl : Chroma) (y x : Nat) (d : Int) (s : State) : State :=
  s.setChroma pl y x (clamp8 ((s.chromaAt pl y x).toNat + d))

/-- `PIX.ADD2(pl, cy, cx, d)` (R181): the even row, then its paired odd row. -/
def pixAdd2 (pl : Chroma) (cy cx : Nat) (d : Int) (s : State) : State :=
  pixAddSat pl (cy + 1) cx d (pixAddSat pl cy cx d s)

/-! ### Step a: background noise injection -/

/-- The noise coordinate, `PHASE + cy · CW + cx` (R182). -/
def noiseCoord (s : State) (cy cx : Nat) : Nat := s.phase.toNat + cy * s.cw.toNat + cx

/-- The noise delta `ND` of a column (R182). -/
def noiseDelta (c : Config) (s : State) (cy cx : Nat) : Int :=
  sampleDelta c s.lattice (noiseCoord s cy cx) (noiseAmplitude c (s.control .noise)) c.noiseShift

/-- Step a of a column: `NOISE.INJECT` if and only if the noise control is not 0 (R148, R182). -/
def noiseInject (c : Config) (pl : Chroma) (cy cx : Nat) (s : State) : State :=
  if s.control .noise ≠ 0 then pixAdd2 pl cy cx (noiseDelta c s cy cx) s else s

/-! ### Step c: active-flare continuation -/

/-- `RT`, the ramp contribution at distance `dx` from the ignition column (R186). -/
def rampAdd (c : Config) (dx fire : Int) : Int := c.rampNum * dx * fire / c.rampDen

/-- `dx = cx − IGN` (R185). -/
def flareDx (s : State) (cx : Nat) : Int := (cx : Int) - s.ign.toNat

/-- `FLARE.CONT(pl, cy, cx)` (R184): the ramp branch (R186) or the decay branch (R187). -/
def flareCont (c : Config) (pl : Chroma) (cy cx : Nat) (s : State) : State :=
  if flareDx s cx < c.rampLen then pixAdd2 pl cy cx (rampAdd c (flareDx s cx) s.fire.toInt) s
  else { pixAdd2 pl cy cx s.fire.toInt s with fire := BitVec.ofInt 10 (s.fire.toInt - s.fireStep.toNat) }

/-! ### Step d: ignition test and ignition -/

/-- The intensity of a new flare, `floor(u · room)` (R190). -/
def igniteFire (c : Config) (ui : Word) (pix : Nat) : Nat := ui.toNat * (c.fireCeil - pix) / 2 ^ 32

/-- The decay step of a new flare, `max(STEP_MIN, floor(room / STEP_DIV))` (R190). -/
def igniteStep (c : Config) (pix : Nat) : Nat := max c.stepMin ((c.fireCeil - pix) / c.stepDiv)

/-- `FLARE.IGNITE(pl, cy, cx, UI)` (R190), from the current pixel value of R189. It writes no pixel (R191). -/
def flareIgnite (c : Config) (pl : Chroma) (cy cx : Nat) (ui : Word) (s : State) : State :=
  { s with
    fire := BitVec.ofNat 10 (igniteFire c ui (s.chromaAt pl cy cx).toNat)
    fireStep := BitVec.ofNat 6 (igniteStep c (s.chromaAt pl cy cx).toNat)
    ign := BitVec.ofNat 11 cx }

/-- `IGN.STEP(pl, cy, cx, EDGE_N)` (R188): the jitter draw, the ignition draw, the test, the ignition. -/
def ignStep (c : Config) (pl : Chroma) (cy cx : Nat) (edgeN : Int) (s : State) : State :=
  let j := rngUnif c s
  let i := rngUnif c j.2
  if ignTest c i.2 i.1 j.1 (chromaDiff i.2 cy cx) edgeN then flareIgnite c pl cy cx i.1 i.2 else i.2

/-! ### The derived state machine (R192) -/

/-- The three states of R192. -/
inductive FlareState where
  /-- no flare -/
  | idle
  /-- the ramp -/
  | ramping
  /-- the decay -/
  | decaying
deriving DecidableEq, Repr

/-- The state at the start of the column step for column `cx` (R192); not stored. -/
def flareState (c : Config) (s : State) (cx : Nat) : FlareState :=
  if s.fire.toInt < c.fireMin then .idle
  else if flareDx s cx < c.rampLen then .ramping
  else .decaying

/-! ### Pass, column step and frame traversal -/

/-- `PASS.START(pl, cy)` (R194): the phase draw, always made, and the cleared fire state. -/
def passStart (c : Config) (s : State) : State :=
  let ph := rngBound c c.phaseBound s
  { ph.2 with phase := BitVec.ofNat 24 ph.1, fire := 0, fireStep := 0, ign := 0 }

/-- `COLUMN(pl, cy, cx)` (R195). The edge value reads luma only, so taking it where step d uses it is the order of
the rule (R195 "a model may skip it then"). -/
def column (c : Config) (pl : Chroma) (cy cx : Nat) (s : State) : State :=
  let s' := noiseInject c pl cy cx s
  if c.fireMin ≤ s'.fire.toInt then flareCont c pl cy cx s'
  else ignStep c pl cy cx (edgeValue c s' cy cx) s'

/-- The first `n` column steps of a pass, `CX` set to each column in turn (R31, R196). -/
def columns (c : Config) (pl : Chroma) (cy : Nat) (n : Nat) (s : State) : State :=
  (List.range n).foldl (fun t cx => column c pl cy cx { t with cx := BitVec.ofNat 11 cx }) s

/-- One pass: one plane over one scanline-pair (R194, R196). -/
def pass (c : Config) (pl : Chroma) (cy : Nat) (s : State) : State :=
  columns c pl cy s.cw.toNat (passStart c { s with pl := pl })

/-- The two passes of a scanline-pair, Cb first, then `CY <- CY + 2` (R196). -/
def rowPair (c : Config) (cy : Nat) (s : State) : State :=
  { pass c .cr cy (pass c .cb cy { s with cy := BitVec.ofNat 11 cy }) with cy := BitVec.ofNat 11 (cy + 2) }

/-- The first `n` scanline-pairs, at rows 0, 2, 4, ... -/
def rowPairs (c : Config) (n : Nat) (s : State) : State :=
  (List.range n).foldl (fun t k => rowPair c (2 * k) t) s

/-- How many even rows are below `CH − 1`: ceil((CH − 1) / 2), which is floor(CH / 2) (R127, R196). -/
def pairCount (ch : Nat) : Nat := ch / 2

/-- `FRAME` (R196): `CY <- 0`, then the counted loops over scanline-pairs, planes and columns. -/
def frame (c : Config) (s : State) : State := rowPairs c (pairCount s.ch.toNat) { s with cy := 0 }

end Sys2Proof.Machine
end

