-- ==== Sys2Proof/Machine/InstanceCommands.lean ====
section
/-! DEFINITION. The instance commands `CONSTRUCT`, `DESTROY`, `SETP`, `GETP`, `PROCESS` (spec/45_host_commands.md R223
to R229). -/

namespace Sys2Proof.Machine

/-- A legal frame dimension: even and in 2..MAX_DIM, on the full 32-bit value (R223). -/
def legalDim (c : Config) (d : Nat) : Bool := d % 2 == 0 && 2 ≤ d && d ≤ c.maxDim

/-- The state of a new instance (R223, spec/10_state.md R41). -/
def newInstance (c : Config) (w h : Nat) (s : State) : State :=
  { rngSeed c s.forgetPlanes with
    width := BitVec.ofNat 13 w
    height := BitVec.ofNat 13 h
    cw := BitVec.ofNat 12 (w / 2)
    ch := BitVec.ofNat 12 (h / 2)
    params := c.pDefault
    fire := 0
    fireStep := 0
    ign := 0
    phase := 0
    instValid := true }

/-- `CONSTRUCT` (R223) at a configuration. -/
def constructAt (c : Config) (width height : Word) (s : State) : Result :=
  admitField s <|
    if s.instValid then raise s .errExists
    else if legalDim c (u32 width) && legalDim c (u32 height) then
      complete (newInstance c (u32 width) (u32 height) s) 0
    else raise s .errDim

/-- `CONSTRUCT` (R223). -/
def execConstruct (width height : Word) (s : State) : Result := constructAt fse width height s

/-- The state after the instance is released (R225); `L`, `NF_READY` and `LASTERR` stay. -/
def dropInstance (s : State) : State :=
  { s.forgetPlanes with
    instValid := false
    width := 0
    height := 0
    cw := 0
    ch := 0
    params := ⟨0, 0, 0, 0⟩
    rngCtr := 0
    rngKey := 0
    fire := 0
    fireStep := 0
    ign := 0
    phase := 0 }

/-- `DESTROY` (R225). -/
def execDestroy (s : State) : Result := admitInstance s (complete (dropInstance s) 0)

/-- `SETP` (R226): every 32-bit value is accepted. -/
def execSetp (sel : Nat) (value : Word) (s : State) : Result :=
  admitInstance s <|
    match Param.ofSel sel with
    | some p => complete (s.setParam p value) 0
    | none => raise s .errIndex

/-- `GETP` (R227). -/
def execGetp (sel : Nat) (s : State) : Result :=
  admitInstance s <|
    match Param.ofSel sel with
    | some p => complete s (s.getParam p)
    | none => raise s .errIndex

/-- `PROCESS` (R228) at a configuration: once admitted it cannot fail. -/
def processAt (c : Config) (s : State) : Result := admitInstance s (complete (frame c s) 0)

/-- `PROCESS frame_time` (R228): the operand is ignored. -/
def execProcess (_frameTime : Word) (s : State) : Result := processAt fse s

end Sys2Proof.Machine
end

