-- ==== Sys2Proof/Machine/PlaneCommands.lean ====
section
/-! DEFINITION. The plane access commands `WRPX` and `RDPX` (spec/45_host_commands.md R230, R231). -/

namespace Sys2Proof.Machine

/-- A pixel coordinate lies in a plane, on the full 32-bit values (R230, spec/20_memory.md R58). -/
def inPlane (s : State) (p : Plane) (x y : Nat) : Bool := x < s.planeWidth p && y < s.planeHeight p

/-- `WRPX` (R230). -/
def execWrpx (sel : Nat) (x y value : Word) (s : State) : Result :=
  admitInstance s <|
    match Plane.ofSel sel with
    | none => raise s .errIndex
    | some p =>
      if inPlane s p (u32 x) (u32 y) && u32 value ≤ 255 then
        complete (s.writePlane p (s.pixelAddr p (u32 y) (u32 x)) (BitVec.ofNat 8 (u32 value))) 0
      else raise s .errRange

/-- `RDPX` (R231): an unwritten byte answers its free value (log entry 4). -/
def execRdpx (sel : Nat) (x y : Word) (s : State) : Result :=
  admitInstance s <|
    match Plane.ofSel sel with
    | none => raise s .errIndex
    | some p =>
      if inPlane s p (u32 x) (u32 y) then
        complete s ((s.readPlane p (s.pixelAddr p (u32 y) (u32 x))).setWidth 32)
      else raise s .errRange

end Sys2Proof.Machine
end

