-- ==== Sys2Proof/Machine/RegisterCommands.lean ====
section
/-! DEFINITION. The register read `RDCSR` (spec/45_host_commands.md R238) over the map of spec/10_state.md R36. -/

namespace Sys2Proof.Machine

/-- `CSR[sel]`, zero-extended to 32 bits (R36, R38, R238). -/
def readCsr (c : Config) (s : State) (r : Csr) : Word :=
  match r with
  | .id => c.fseId
  | .status => s.statusWord
  | .lastErr => s.lastErr.setWidth 32
  | .width => s.width.setWidth 32
  | .height => s.height.setWidth 32
  | .cw => s.cw.setWidth 32
  | .ch => s.ch.setWidth 32
  | .param p => s.getParam p
  | .rngCtr => s.rngCtr
  | .rngKey => s.rngKey

/-- `RDCSR` (R238) at a configuration: admitted in every state. -/
def rdcsrAt (c : Config) (sel : Nat) (s : State) : Result :=
  match Csr.ofSel sel with
  | some r => complete s (readCsr c s r)
  | none => raise s .errIndex

/-- `RDCSR` (R238). -/
def execRdcsr (sel : Nat) (s : State) : Result := rdcsrAt fse sel s

end Sys2Proof.Machine
end

