-- ==== Sys2Proof/Machine/UnitCommands.lean ====
section
/-! DEFINITION. The unit access commands `RNGNEXT`, `RNGUNIF`, `RNGBOUND`, `NFSAMPLE`, `NFREAD`
(spec/45_host_commands.md R232 to R237). They act on the live state. -/

namespace Sys2Proof.Machine

/-- `RNGNEXT` (R233) at a configuration. -/
def rngnextAt (c : Config) (s : State) : Result := admitInstance s (complete (rngNext c s).2 (rngNext c s).1)

/-- `RNGNEXT` (R233). -/
def execRngnext (s : State) : Result := rngnextAt fse s

/-- `RNGUNIF` (R234) at a configuration. -/
def rngunifAt (c : Config) (s : State) : Result := admitInstance s (complete (rngUnif c s).2 (rngUnif c s).1)

/-- `RNGUNIF` (R234). -/
def execRngunif (s : State) : Result := rngunifAt fse s

/-- `RNGBOUND n` (R235) at a configuration: every n is legal. -/
def rngboundAt (c : Config) (n : Word) (s : State) : Result :=
  admitInstance s (complete (rngBound c (u32 n) s).2 (BitVec.ofNat 32 (rngBound c (u32 n) s).1))

/-- `RNGBOUND n` (R235). -/
def execRngbound (n : Word) (s : State) : Result := rngboundAt fse n s

/-- `NFSAMPLE coordinate, amplitude, shift` (R236) at a configuration: needs no instance and changes nothing. -/
def nfsampleAt (c : Config) (coord amp shift : Word) (s : State) : Result :=
  admitField s <|
    if u32 shift ≤ 8 then
      complete s (BitVec.ofInt 32 (sampleQ16 c s.lattice (u32 coord) (s32 amp) (u32 shift)))
    else raise s .errRange

/-- `NFSAMPLE` (R236). -/
def execNfsample (coord amp shift : Word) (s : State) : Result := nfsampleAt fse coord amp shift s

/-- `NFREAD index` (R237) at a configuration: the index is checked, not masked. -/
def nfreadAt (c : Config) (index : Word) (s : State) : Result :=
  admitField s <|
    if u32 index < c.noiseLen then complete s (s.lattice (u32 index)) else raise s .errRange

/-- `NFREAD` (R237). -/
def execNfread (index : Word) (s : State) : Result := nfreadAt fse index s

end Sys2Proof.Machine
end

