-- ==== Sys2Proof/Machine/Dispatch.lean ====
section
/-! DEFINITION. The meaning of each command, one arm per constructor of `Instr`. -/

namespace Sys2Proof.Machine

def exec (i : Instr) (s : State) : Host.Outcome State Fault Refusal :=
  match i with
  -- block-level commands (R220 to R222)
  | .nop => Sys2Proof.Machine.execNop s
  | .nfbuild => Sys2Proof.Machine.execNfbuild s
  | .shutdown => Sys2Proof.Machine.execShutdown s
  -- instance commands (R223 to R228)
  | .construct width height => Sys2Proof.Machine.execConstruct width height s
  | .destroy => Sys2Proof.Machine.execDestroy s
  | .setp sel value => Sys2Proof.Machine.execSetp sel value s
  | .getp sel => Sys2Proof.Machine.execGetp sel s
  | .process frameTime => Sys2Proof.Machine.execProcess frameTime s
  -- plane access commands (R230, R231)
  | .wrpx sel x y value => Sys2Proof.Machine.execWrpx sel x y value s
  | .rdpx sel x y => Sys2Proof.Machine.execRdpx sel x y s
  -- unit access commands (R233 to R237)
  | .rngnext => Sys2Proof.Machine.execRngnext s
  | .rngunif => Sys2Proof.Machine.execRngunif s
  | .rngbound n => Sys2Proof.Machine.execRngbound n s
  | .nfsample coord amp shift => Sys2Proof.Machine.execNfsample coord amp shift s
  | .nfread index => Sys2Proof.Machine.execNfread index s
  -- register read (R238)
  | .rdcsr sel => Sys2Proof.Machine.execRdcsr sel s

end Sys2Proof.Machine
end

