-- ==== Sys2Proof/Machine/Port.lean ====
section
/-! DEFINITION. What a step does with the next event the host delivers (spec/60_exceptions.md R276), over the meaning of
the commands. -/

namespace Sys2Proof.Machine

/-- The step relation over a meaning `run` of the commands. With nothing delivered the state does not change (R276); a
reset event resets the block (R290); a packet is decoded and either executes or is answered `ERR_ILLEGAL` (R239). -/
def serve (run : Instr → State → Result) (s : State) : Result :=
  match s.takeEvent with
  | none => .next s
  | some (.reset, t) => .next t.resetBlock
  | some (.packet p nfMemOk, t) =>
    match decode p with
    | .ok i => run i (t.withEnv nfMemOk)
    | .error _ => illegalPacket (t.withEnv nfMemOk)

end Sys2Proof.Machine
end

