-- ==== Sys2Proof/Machine/Step.lean ====
section
/-! DEFINITION. One step of the machine: the next event the host delivers (spec/60_exceptions.md R276). -/

namespace Sys2Proof.Machine

/-- One step: what `serve` does with the meanings of `exec`. -/
def step (s : State) : Host.Outcome State Fault Refusal := serve exec s

/-- `s` with the instruction whose bits are `w` (in the opcode table's numbering, the bits from `nbits` on zero)
delivered at the command port as the next packet, the environment input as it stands in `s` (log entry 12). -/
def State.withFetchWord (s : State) (nbits w : Nat) : State := s.deliver (Packet.ofTableWord nbits w)

end Sys2Proof.Machine
end

