-- ==== Sys2Proof/Machine/Configured.lean ====
section
/-! DEFINITION. The machine of every configuration: the configuration is a parameter of the step relation
(spec/00_scope.md R5, spec/10_state.md R33). `exec` and `step` are these at the defaults `fse` (log entry 7). -/

namespace Sys2Proof.Machine

/-- The meaning of each command at a configuration. The commands without a configuration argument read none. -/
def execAt (c : Config) (i : Instr) (s : State) : Result :=
  match i with
  | .nop => execNop s
  | .nfbuild => nfbuildAt c s
  | .shutdown => execShutdown s
  | .construct width height => constructAt c width height s
  | .destroy => execDestroy s
  | .setp sel value => execSetp sel value s
  | .getp sel => execGetp sel s
  | .process _ => processAt c s
  | .wrpx sel x y value => execWrpx sel x y value s
  | .rdpx sel x y => execRdpx sel x y s
  | .rngnext => rngnextAt c s
  | .rngunif => rngunifAt c s
  | .rngbound n => rngboundAt c n s
  | .nfsample coord amp shift => nfsampleAt c coord amp shift s
  | .nfread index => nfreadAt c index s
  | .rdcsr sel => rdcsrAt c sel s

/-- The step relation at a configuration. The rules are stated for configurations with `Config.Valid`, and the registers
hold their values for those with `Config.FitsWidths` (log entries 7 and 8). -/
def stepAt (c : Config) (s : State) : Result := serve (execAt c) s

end Sys2Proof.Machine
end

