-- ==== Sys2Proof/Machine/TextForm.lean ====
section
/-! DEFINITION. The text form of a command (spec/30_encoding.md R77, R78): one line is one packet. -/

namespace Sys2Proof.Machine

/-! ### Pieces of a line -/

/-- White space between the pieces of a line (log entry 19). -/
def isBlank (c : Char) : Bool := c == ' ' || c == '\t'

/-- A piece without the white space around it. -/
def trim (cs : List Char) : List Char := ((cs.dropWhile isBlank).reverse.dropWhile isBlank).reverse

/-- The line without its comment, which a `;` starts. -/
def dropComment (line : List Char) : List Char := line.takeWhile (fun c => c != ';')

/-- The pieces between commas. -/
def splitCommas (cs : List Char) : List (List Char) :=
  match cs with
  | [] => [[]]
  | c :: rest =>
    if c == ',' then [] :: splitCommas rest
    else
      match splitCommas rest with
      | [] => [[c]]
      | piece :: more => (c :: piece) :: more

/-- The operands after the mnemonic: none if nothing stands there. -/
def operandPieces (cs : List Char) : List (List Char) :=
  if (trim cs).isEmpty then [] else (splitCommas cs).map trim

/-! ### Numbers -/

/-- The value of a digit character. -/
def digitValue (c : Char) : Option Nat :=
  let n := c.toNat
  if 48 ≤ n && n ≤ 57 then some (n - 48)
  else if 97 ≤ n && n ≤ 102 then some (n - 87)
  else if 65 ≤ n && n ≤ 70 then some (n - 55)
  else none

/-- Reads digits of a base after a value read so far. -/
def readDigits (base acc : Nat) (cs : List Char) : Option Nat :=
  match cs with
  | [] => some acc
  | c :: rest =>
    match digitValue c with
    | some d => if d < base then readDigits base (acc * base + d) rest else none
    | none => none

/-- A numeral of a base: at least one digit. -/
def readNumeral (base : Nat) (cs : List Char) : Option Nat :=
  if cs.isEmpty then none else readDigits base 0 cs

/-- An unsigned number: decimal, or hexadecimal after `0x`. -/
def readUnsigned (cs : List Char) : Option Nat :=
  match cs with
  | '0' :: 'x' :: rest => readNumeral 16 rest
  | _ => readNumeral 10 cs

/-- An operand word: an unsigned number below 2^32, or a negative decimal number for its 32-bit two's complement. -/
def readWord (cs : List Char) : Option Word :=
  match cs with
  | '-' :: rest =>
    match readNumeral 10 rest with
    | some n => if n ≤ 2 ^ 31 then some (BitVec.ofInt 32 (-(n : Int))) else none
    | none => none
  | _ =>
    match readUnsigned cs with
    | some n => if n < 2 ^ 32 then some (BitVec.ofNat 32 n) else none
    | none => none

/-! ### Selectors -/

/-- A selector as a number below 256. -/
def readSelNumber (cs : List Char) : Option Nat :=
  match readUnsigned cs with
  | some n => if n < 256 then some n else none
  | none => none

/-- A plane: `Y`, `CB`, `CR` or a number. -/
def readPlaneSel (cs : List Char) : Option Nat :=
  match String.ofList cs with
  | "Y" => some 0
  | "CB" => some 1
  | "CR" => some 2
  | _ => readSelNumber cs

/-- A parameter: `RND`, `EDGE`, `SAT`, `NOISE` or a number. -/
def readParamSel (cs : List Char) : Option Nat :=
  match String.ofList cs with
  | "RND" => some 0
  | "EDGE" => some 1
  | "SAT" => some 2
  | "NOISE" => some 3
  | _ => readSelNumber cs

/-- A register: a name of spec/10_state.md R36 or a number. -/
def readRegisterSel (cs : List Char) : Option Nat :=
  match String.ofList cs with
  | "ID" => some 0x00
  | "STATUS" => some 0x01
  | "LASTERR" => some 0x02
  | "WIDTH" => some 0x03
  | "HEIGHT" => some 0x04
  | "CW" => some 0x05
  | "CH" => some 0x06
  | "P0" => some 0x08
  | "P1" => some 0x09
  | "P2" => some 0x0A
  | "P3" => some 0x0B
  | "RNG_CTR" => some 0x10
  | "RNG_KEY" => some 0x11
  | _ => readSelNumber cs

/-! ### Lines -/

/-- The command of a mnemonic and its operands, in the order `sel`, `A0`, `A1`, `A2`, stopping after the last one
the command uses (R77). -/
def commandOfText (mnemonic : List Char) (operands : List (List Char)) : Option Instr :=
  match String.ofList mnemonic, operands with
  | "NOP", [] => some .nop
  | "NFBUILD", [] => some .nfbuild
  | "SHUTDOWN", [] => some .shutdown
  | "CONSTRUCT", [w, h] => return .construct (← readWord w) (← readWord h)
  | "DESTROY", [] => some .destroy
  | "SETP", [sel, v] => return .setp (← readParamSel sel) (← readWord v)
  | "GETP", [sel] => return .getp (← readParamSel sel)
  | "PROCESS", [t] => return .process (← readWord t)
  | "WRPX", [sel, x, y, v] => return .wrpx (← readPlaneSel sel) (← readWord x) (← readWord y) (← readWord v)
  | "RDPX", [sel, x, y] => return .rdpx (← readPlaneSel sel) (← readWord x) (← readWord y)
  | "RNGNEXT", [] => some .rngnext
  | "RNGUNIF", [] => some .rngunif
  | "RNGBOUND", [n] => return .rngbound (← readWord n)
  | "NFSAMPLE", [k, a, sh] => return .nfsample (← readWord k) (← readWord a) (← readWord sh)
  | "NFREAD", [i] => return .nfread (← readWord i)
  | "RDCSR", [sel] => return .rdcsr (← readRegisterSel sel)
  | _, _ => none

/-- The command of a line. -/
def assemble (line : String) : Option Instr :=
  let body := trim (dropComment line.toList)
  commandOfText (body.takeWhile (fun c => !isBlank c)) (operandPieces (body.dropWhile (fun c => !isBlank c)))

/-- The packet of a line: exactly one (R77, R78). -/
def packetOfLine (line : String) : Option Packet :=
  match assemble line with
  | some i => some (encode i)
  | none => none

end Sys2Proof.Machine
end

