-- ==== Sys2Proof/Safety.lean ====
section
/-! DEFINITION. The terms the claims are stated in: the invariants of spec/10_state.md R42, reachable states, runs that
never stop, the text of a command, and transcriptions of the spec's loops that the machine's own definitions are compared
with. -/

namespace Sys2Proof.Machine

/-! ### The invariant -/

/-- R42 (i), (ii): the legal combinations of the flags. -/
def State.FlagsOk (s : State) : Prop :=
  (s.instValid = true → s.nfReady = true) ∧ (s.fatal = true → s.nfReady = false ∧ s.instValid = false)

/-- R42 (iii): the dimensions of an instance. -/
def State.DimsOk (s : State) : Prop :=
  s.instValid = true →
    s.width.toNat % 2 = 0 ∧ 2 ≤ s.width.toNat ∧ s.width.toNat ≤ 4096 ∧
    s.height.toNat % 2 = 0 ∧ 2 ≤ s.height.toNat ∧ s.height.toNat ≤ 4096 ∧
    s.cw.toNat = s.width.toNat / 2 ∧ s.ch.toNat = s.height.toNat / 2

/-- R42 (iv): the instance registers without an instance. -/
def State.ClearedOk (s : State) : Prop :=
  s.instValid = false →
    s.width = 0 ∧ s.height = 0 ∧ s.cw = 0 ∧ s.ch = 0 ∧ s.params = ⟨0, 0, 0, 0⟩ ∧ s.rngCtr = 0 ∧ s.rngKey = 0

/-- R42 (v): the lattice while it is ready. -/
def State.LatticeOk (s : State) : Prop := s.nfReady = true → s.nf = latticeTable fse

/-- The memories are in canonical form and list no address outside their space (spec/20_memory.md R50). -/
def State.MemoryOk (s : State) : Prop :=
  s.nf.wf ∧ s.ym.wf ∧ s.cb.wf ∧ s.cr.wf ∧
  (∀ e ∈ s.ym, e.1 < s.width.toNat * s.height.toNat) ∧
  (∀ e ∈ s.cb, e.1 < s.cw.toNat * s.ch.toNat) ∧
  (∀ e ∈ s.cr, e.1 < s.cw.toNat * s.ch.toNat)

/-- The ranges of the fire state at the defaults, and of `PHASE` (R28, R29). -/
def State.FireOk (s : State) : Prop :=
  -16 ≤ s.fire.toInt ∧ s.fire.toInt ≤ 255 ∧
  (s.fireStep.toNat = 0 ∨ (4 ≤ s.fireStep.toNat ∧ s.fireStep.toNat ≤ 32)) ∧
  s.phase.toNat < fse.phaseBound

/-- The invariant of the machine: R42 with the forms of the memories and the ranges of the fire state. -/
structure State.Inv (s : State) : Prop where
  flags : s.FlagsOk
  dims : s.DimsOk
  cleared : s.ClearedOk
  lattice : s.LatticeOk
  memory : s.MemoryOk
  fire : s.FireOk

/-! ### Runs -/

/-- The state after reset at a host that will deliver `events`. -/
def bootWith (events : List Event) : State := { State.reset with inbox := events }

/-- The states a run from reset reaches, whatever the host delivers. -/
def Reachable (s : State) : Prop :=
  ∃ (events : List Event) (k : Nat), Sys2Proof.core.run k (bootWith events) = .next s

/-- A safe run: no number of steps ends in a fault or a refusal. -/
def NeverStops (s : State) : Prop := ∀ k : Nat, ∃ t : State, Sys2Proof.core.run k s = .next t

/-- The table of R40, for the elements it gives a value. The memories are unspecified and not part of it. -/
def State.AtReset (s : State) : Prop :=
  s.nfReady = false ∧ s.instValid = false ∧ s.fatal = false ∧ s.lastErr = 0 ∧
  s.width = 0 ∧ s.height = 0 ∧ s.cw = 0 ∧ s.ch = 0 ∧
  s.params.rnd = 0 ∧ s.params.edge = 0 ∧ s.params.sat = 0 ∧ s.params.noise = 0 ∧
  s.rngCtr = 0 ∧ s.rngKey = 0 ∧
  s.fire = 0 ∧ s.fireStep = 0 ∧ s.ign = 0 ∧ s.phase = 0 ∧ s.cy = 0 ∧ s.pl = .cb ∧ s.cx = 0

/-! ### Which commands the admission checks concern (spec/60_exceptions.md R260, R263) -/

/-- The commands that never answer `ERR_FATAL`. -/
def servedInFatal (i : Instr) : Prop := i = .nop ∨ i = .shutdown ∨ ∃ sel, i = .rdcsr sel

/-- The commands that need the noise field. -/
def needsField (i : Instr) : Prop :=
  (∃ w h, i = .construct w h) ∨ (∃ k a sh, i = .nfsample k a sh) ∨ (∃ n, i = .nfread n)

/-- The commands that need an effect instance. -/
def needsInstance (i : Instr) : Prop :=
  i = .destroy ∨ (∃ n v, i = .setp n v) ∨ (∃ n, i = .getp n) ∨ (∃ t, i = .process t) ∨
  (∃ n x y v, i = .wrpx n x y v) ∨ (∃ n x y, i = .rdpx n x y) ∨ i = .rngnext ∨ i = .rngunif ∨
  (∃ n, i = .rngbound n)

/-- The commands whose "result" column of R74 is 0. -/
def givesNoResult (i : Instr) : Prop :=
  i = .nop ∨ i = .nfbuild ∨ i = .shutdown ∨ (∃ w h, i = .construct w h) ∨ i = .destroy ∨
  (∃ n v, i = .setp n v) ∨ (∃ t, i = .process t) ∨ (∃ n x y v, i = .wrpx n x y v)

/-- A legal pair of frame dimensions (R223), at the default `MAX_DIM`. -/
def LegalFrame (w h : Word) : Prop :=
  w.toNat % 2 = 0 ∧ 2 ≤ w.toNat ∧ w.toNat ≤ 4096 ∧ h.toNat % 2 = 0 ∧ 2 ≤ h.toNat ∧ h.toNat ≤ 4096

/-- The plane of a selector (R230). -/
def PlaneSel (sel : Nat) (p : Plane) : Prop :=
  (sel = 0 ∧ p = .luma) ∨ (sel = 1 ∧ p = .chroma .cb) ∨ (sel = 2 ∧ p = .chroma .cr)

/-- An effect instance is present and the block is not in the `FATAL` state: what admits an instance command. -/
def State.Live (s : State) : Prop := s.fatal = false ∧ s.instValid = true

/-- The noise field is ready and the block is not in the `FATAL` state: what admits a noise-field command. -/
def State.FieldLive (s : State) : Prop := s.fatal = false ∧ s.nfReady = true

/-- The answer of a command that ends with an error status: the response and `LASTERR`, nothing else (R266). -/
def State.errored (s : State) (st : Status) : State :=
  { s with lastErr := st.code, outbox := ⟨st.code.setWidth 32, 0⟩ :: s.outbox }

/-- The answer `OK` with a result word, and no other change. -/
def State.answered (s : State) (v : Word) : State := { s with outbox := ⟨0, v⟩ :: s.outbox }

/-! ### Plane bytes as integers -/

/-- `Y[row][col]` (R10, R52): the luma byte at its row-major address. -/
def State.lumaValue (s : State) (row col : Nat) : Int := (s.readPlane .luma (row * s.width.toNat + col)).toNat

/-- Two luma memories that agree on every byte inside the plane. -/
def State.AgreeOnLuma (s t : State) : Prop :=
  ∀ a < s.width.toNat * s.height.toNat, t.readPlane .luma a = s.readPlane .luma a

/-- Two states whose chroma planes agree on every byte inside the plane. -/
def State.AgreeOnChroma (s t : State) : Prop :=
  ∀ (q : Chroma), ∀ a < s.cw.toNat * s.ch.toNat, t.readPlane (.chroma q) a = s.readPlane (.chroma q) a

/-! ### The text of a command (spec/30_encoding.md R77), written and not read -/

/-- The digits of a number in a base, the letters in upper case if asked. -/
def digitsText (upper : Bool) (base n : Nat) : List Char :=
  (Nat.toDigits base n).map fun ch => if upper then ch.toUpper else ch

/-- A text of an unsigned number: decimal, or `0x` and hexadecimal in either case, with any number of leading zeros. -/
def NumberText (n : Nat) (text : List Char) : Prop :=
  ∃ zeros : Nat,
    text = List.replicate zeros '0' ++ digitsText false 10 n ∨
    ∃ upper : Bool, text = '0' :: 'x' :: (List.replicate zeros '0' ++ digitsText upper 16 n)

/-- A text of an operand word: its unsigned number, or a negative decimal number for its 32-bit two's complement. -/
def WordText (w : Word) (text : List Char) : Prop :=
  NumberText w.toNat text ∨ (w.toInt < 0 ∧ text = '-' :: digitsText false 10 w.toInt.natAbs)

/-- A text of a selector: its number, or a name that stands for it. -/
def SelText (names : List (String × Nat)) (sel : Nat) (text : List Char) : Prop :=
  NumberText sel text ∨ ∃ name, (name, sel) ∈ names ∧ text = name.toList

/-- The names of the planes (R77). -/
def planeNames : List (String × Nat) := [("Y", 0), ("CB", 1), ("CR", 2)]

/-- The names of the parameters (R77). -/
def paramNames : List (String × Nat) := [("RND", 0), ("EDGE", 1), ("SAT", 2), ("NOISE", 3)]

/-- The names of the registers (R77, spec/10_state.md R36). -/
def registerNames : List (String × Nat) :=
  [("ID", 0x00), ("STATUS", 0x01), ("LASTERR", 0x02), ("WIDTH", 0x03), ("HEIGHT", 0x04), ("CW", 0x05), ("CH", 0x06),
   ("P0", 0x08), ("P1", 0x09), ("P2", 0x0A), ("P3", 0x0B), ("RNG_CTR", 0x10), ("RNG_KEY", 0x11)]

/-- Operand texts one after the other, a comma and `gap` spaces between two of them. -/
def operandsText (gap : Nat) (operands : List (List Char)) : List Char :=
  match operands with
  | [] => []
  | [o] => o
  | o :: rest => o ++ ',' :: (List.replicate gap ' ' ++ operandsText gap rest)

/-- The mnemonic of a command and texts of its operands, in the order `sel`, `A0`, `A1`, `A2` (R74, R77). -/
def CommandText (i : Instr) (mnemonic : String) (operands : List (List Char)) : Prop :=
  match i with
  | .nop => mnemonic = "NOP" ∧ operands = []
  | .nfbuild => mnemonic = "NFBUILD" ∧ operands = []
  | .shutdown => mnemonic = "SHUTDOWN" ∧ operands = []
  | .construct w h => mnemonic = "CONSTRUCT" ∧ ∃ a b, WordText w a ∧ WordText h b ∧ operands = [a, b]
  | .destroy => mnemonic = "DESTROY" ∧ operands = []
  | .setp sel v => mnemonic = "SETP" ∧ ∃ n a, SelText paramNames sel n ∧ WordText v a ∧ operands = [n, a]
  | .getp sel => mnemonic = "GETP" ∧ ∃ n, SelText paramNames sel n ∧ operands = [n]
  | .process t => mnemonic = "PROCESS" ∧ ∃ a, WordText t a ∧ operands = [a]
  | .wrpx sel x y v => mnemonic = "WRPX" ∧ ∃ n a b d,
      SelText planeNames sel n ∧ WordText x a ∧ WordText y b ∧ WordText v d ∧ operands = [n, a, b, d]
  | .rdpx sel x y => mnemonic = "RDPX" ∧ ∃ n a b,
      SelText planeNames sel n ∧ WordText x a ∧ WordText y b ∧ operands = [n, a, b]
  | .rngnext => mnemonic = "RNGNEXT" ∧ operands = []
  | .rngunif => mnemonic = "RNGUNIF" ∧ operands = []
  | .rngbound n => mnemonic = "RNGBOUND" ∧ ∃ a, WordText n a ∧ operands = [a]
  | .nfsample k m sh => mnemonic = "NFSAMPLE" ∧ ∃ a b d,
      WordText k a ∧ WordText m b ∧ WordText sh d ∧ operands = [a, b, d]
  | .nfread n => mnemonic = "NFREAD" ∧ ∃ a, WordText n a ∧ operands = [a]
  | .rdcsr sel => mnemonic = "RDCSR" ∧ ∃ n, SelText registerNames sel n ∧ operands = [n]

/-- A line of the text form that stands for a command: mnemonic, a space and the operands if there are any, then any
spaces and perhaps a comment. That blanks are spaces is the model's choice (log entry 19). -/
def LineText (i : Instr) (line : String) : Prop :=
  ∃ (mnemonic : String) (operands : List (List Char)) (gap blanks : Nat) (comment : List Char),
    CommandText i mnemonic operands ∧ (comment = [] ∨ ∃ rest, comment = ';' :: rest) ∧
    line = String.ofList (mnemonic.toList ++ (if operands = [] then [] else ' ' :: operandsText gap operands) ++
      List.replicate blanks ' ' ++ comment)

/-! ### Transcriptions of the spec's loops -/

/-- The loop of `NF.BUILD` (R101): `n` times, advance the temporary counter and write the next index. -/
def buildLoop (c : Config) (n i : Nat) (ctr : Word) (m : Memory 32) : Memory 32 :=
  match n with
  | 0 => m
  | n + 1 => buildLoop c n (i + 1) (ctr + 1) (Memory.write m i (c.rngMix ((ctr + 1) ^^^ c.noiseKey)))

/-- `for CX in cx, cx + 1, ...`, `n` columns (R196). -/
def forColumns (c : Config) (pl : Chroma) (cy n cx : Nat) (s : State) : State :=
  match n with
  | 0 => s
  | n + 1 => forColumns c pl cy n (cx + 1) (column c pl cy cx { s with cx := BitVec.ofNat 11 cx })

/-- The body of the plane loop of R196. -/
def forPlane (c : Config) (cy : Nat) (pl : Chroma) (s : State) : State :=
  forColumns c pl cy s.cw.toNat 0 (passStart c { s with pl := pl })

/-- `while CY < CH - 1` (R196), with fuel: the loop variable is the integer `CY`. -/
def whileRows (c : Config) (fuel cy : Nat) (s : State) : State :=
  match fuel with
  | 0 => s
  | fuel + 1 =>
    if (cy : Int) < (s.ch.toNat : Int) - 1 then
      whileRows c fuel (cy + 2)
        { [Chroma.cb, Chroma.cr].foldl (fun t pl => forPlane c cy pl t) { s with cy := BitVec.ofNat 11 cy } with
          cy := BitVec.ofNat 11 (cy + 2) }
    else s

/-! ### Counting continuation columns (spec/41_prng.md R127) -/

/-- How many of the first `n` columns of a pass take the continuation branch, from the state after `PASS.START`.
Noise injection does not touch `FIRE`, so the branch is decided by the state before the column. -/
def continuations (c : Config) (pl : Chroma) (cy n : Nat) (s : State) : Nat :=
  ((List.range n).filter fun k => decide ((c.fireMin : Int) ≤ (columns c pl cy k s).fire.toInt)).length

/-- The continuation columns of one pass. -/
def passContinuations (c : Config) (pl : Chroma) (cy : Nat) (s : State) : Nat :=
  continuations c pl cy s.cw.toNat (passStart c { s with pl := pl })

/-- `NC` of R127: the continuation columns of one frame. -/
def frameContinuations (c : Config) (s : State) : Nat :=
  ((List.range (pairCount s.ch.toNat)).map fun k =>
    passContinuations c .cb (2 * k) { rowPairs c k { s with cy := 0 } with cy := BitVec.ofNat 11 (2 * k) } +
    passContinuations c .cr (2 * k)
      (pass c .cb (2 * k) { rowPairs c k { s with cy := 0 } with cy := BitVec.ofNat 11 (2 * k) })).sum

/-! ### The profile of one flare (R193) -/

/-- The value added `k` columns after an ignition with intensity `f` and step `d`, at the defaults. -/
def flareProfile (f d k : Int) : Int := if k < 6 then 15 * k * f / 100 else f - (k - 6) * d

end Sys2Proof.Machine
end

