-- ==== Sys2Proof/Certificates/Slice0/Obligations.lean ====
section
/-! DEFINITION. The statements about the FSE. Each docstring names the rules of spec/ the statement formalises, and the
log entry behind any clause that is the model's own. -/

open Sys2Proof Sys2Proof.Machine

/-! ### Encoding (spec/30_encoding.md) -/

/-- Command words written out from the fields of R71 and the operation codes of R74 decode to the commands they stand
for, and illegal ones of spec/95 2.1 are rejected. -/
def Obligations.WrittenWordsDecode : Prop :=
  decode ⟨0x00000000, 0, 0, 0⟩ = .ok .nop ∧
  decode ⟨0x00000010, 0x40, 0x40, 0⟩ = .ok (.construct 0x40 0x40) ∧
  decode ⟨0x00000312, 0x00010000, 0, 0⟩ = .ok (.setp 3 0x00010000) ∧
  decode ⟨0x00000014, 0, 0x12345678, 0x9ABCDEF0⟩ = .ok (.process 0) ∧
  decode ⟨0x00000120, 3, 0, 0x80⟩ = .ok (.wrpx 1 3 0 0x80) ∧
  decode ⟨0x00000033, 5, 0xFFC00000, 4⟩ = .ok (.nfsample 5 0xFFC00000 4) ∧
  decode ⟨0x00001040, 0, 0, 0⟩ = .ok (.rdcsr 0x10) ∧
  decode ⟨0x00010000, 0, 0, 0⟩ = .error .reservedNotZero ∧
  decode ⟨0x00000003, 0, 0, 0⟩ = .error .unassignedOp ∧
  decode ⟨0x00000110, 0x40, 0x40, 0⟩ = .error .selNotZero

/-- Decode and encode agree: every well-formed command, with every operand the encoding admits (R71 to R74). -/
def Obligations.DecodeOfEncode : Prop := ∀ i : Instr, WellFormed i → decode (encode i) = .ok i

/-- The other direction: a packet that decodes is the encoding of its command but for the operand words the command
does not use, and those are ignored (R72). -/
def Obligations.EncodeOfDecode : Prop :=
  ∀ (p : Packet) (i : Instr), decode p = .ok i →
    WellFormed i ∧
    encode i = ⟨p.w0, if 1 ≤ i.operandWords then p.w1 else 0, if 2 ≤ i.operandWords then p.w2 else 0,
      if 3 ≤ i.operandWords then p.w3 else 0⟩ ∧
    ∀ q : Packet, q.w0 = p.w0 → (1 ≤ i.operandWords → q.w1 = p.w1) → (2 ≤ i.operandWords → q.w2 = p.w2) →
      (3 ≤ i.operandWords → q.w3 = p.w3) → decode q = .ok i

/-- Exactly the packets R76 names are illegal: reserved bits, an unassigned `op`, a format Z command with a selector. -/
def Obligations.IllegalPacketsAreThoseNamed : Prop :=
  ∀ p : Packet,
    (∃ e, decode p = .error e) ↔
      p.w0.toNat / 65536 ≠ 0 ∨
      p.w0.toNat % 256 ∉ [0x00, 0x01, 0x02, 0x10, 0x11, 0x12, 0x13, 0x14, 0x20, 0x21, 0x30, 0x31, 0x32, 0x33, 0x34, 0x40] ∨
      (p.w0.toNat % 256 ∈ [0x00, 0x01, 0x02, 0x10, 0x11, 0x14, 0x30, 0x31, 0x32, 0x33, 0x34] ∧
        p.w0.toNat / 256 % 256 ≠ 0)

/-- Serialisation (R79): a packet is 16 bytes, a response 8, each word little-endian in order, and a packet is read back
from its bytes. -/
def Obligations.PacketsSerialiseLittleEndian : Prop :=
  (∀ p : Packet, p.toBytes.length = 16 ∧ Packet.ofBytes p.toBytes = some p ∧
    ∀ k < 4,
      p.toBytes[k]? = some (BitVec.ofNat 8 (p.w0.toNat / 256 ^ k)) ∧
      p.toBytes[4 + k]? = some (BitVec.ofNat 8 (p.w1.toNat / 256 ^ k)) ∧
      p.toBytes[8 + k]? = some (BitVec.ofNat 8 (p.w2.toNat / 256 ^ k)) ∧
      p.toBytes[12 + k]? = some (BitVec.ofNat 8 (p.w3.toNat / 256 ^ k))) ∧
  (∀ r : Response, r.toBytes.length = 8 ∧
    ∀ k < 4,
      r.toBytes[k]? = some (BitVec.ofNat 8 (r.r0.toNat / 256 ^ k)) ∧
      r.toBytes[4 + k]? = some (BitVec.ofNat 8 (r.r1.toNat / 256 ^ k))) ∧
  (encode (.construct 64 64)).toBytes =
    [0x10, 0, 0, 0, 0x40, 0, 0, 0, 0x40, 0, 0, 0, 0, 0, 0, 0]

/-- The text form (R77, R78): every line that writes a well-formed command, its selector by number or by name, its operand
words in decimal, hexadecimal or as a negative decimal, with or without a comment, assembles to that command and to its one
packet, unused operand words 0; every line that assembles is one packet, which decodes to the line's command; the example of
R77. The blanks between the pieces and the leading zeros are the model's choice (log entry 19). -/
def Obligations.TextLinesAreLegalPackets : Prop :=
  (∀ (i : Instr) (line : String), WellFormed i → LineText i line →
    assemble line = some i ∧ packetOfLine line = some (encode i)) ∧
  (∀ (line : String) (p : Packet), packetOfLine line = some p → ∃ i, assemble line = some i ∧ decode p = .ok i) ∧
  packetOfLine "SETP NOISE, 0x00010000" = some ⟨0x00000312, 0x00010000, 0, 0⟩

/-! ### The step -/

/-- A step runs the decoded command: the packet leaves the port, its environment input stands at the port, and the rest is
`exec` (R239; the port is the model's, log entries 1 and 3). The same holds of the step relation at every configuration
(R5, R33), and the machine is that relation at the defaults (log entry 7). -/
def Obligations.StepRunsDecoded : Prop :=
  (∀ (s : State) (p : Packet) (b : Bool) (rest : List Event) (i : Instr),
    s.inbox = .packet p b :: rest → decode p = .ok i →
      step s = exec i { s with inbox := rest, nfMemOk := b }) ∧
  (∀ (c : Config) (s : State) (p : Packet) (b : Bool) (rest : List Event) (i : Instr),
    s.inbox = .packet p b :: rest → decode p = .ok i →
      stepAt c s = execAt c i { s with inbox := rest, nfMemOk := b }) ∧
  (∀ (i : Instr) (s : State), exec i s = execAt fse i s) ∧
  ∀ s : State, step s = stepAt fse s

/-- With nothing delivered a step does not change the state (R276: between commands it does not change), and a command
delivered by `withFetchWord` is the very next one to run, on the state as it was (log entries 1 and 12). -/
def Obligations.OnlyDeliveredCommandsRun : Prop :=
  (∀ s : State, s.inbox = [] → step s = .next s) ∧
  ∀ (s : State) (nbits w : Nat) (i : Instr), decodeTableWord nbits w = some i →
    step (s.withFetchWord nbits w) = exec i s

/-- An illegal packet answers `ERR_ILLEGAL` in every state, `FATAL` too, sets `LASTERR` and changes nothing else
(R261). -/
def Obligations.IllegalPacketAnswered : Prop :=
  ∀ (s : State) (p : Packet) (b : Bool) (rest : List Event) (e : DecodeError),
    s.inbox = .packet p b :: rest → decode p = .error e →
      step s = .next { s with inbox := rest, nfMemOk := b, lastErr := 0x01, outbox := ⟨1, 0⟩ :: s.outbox }

/-- Reset: the initial state, the state after a reset event and the state after `SHUTDOWN` hold the values of the table of
R40, in whatever state they find the block; `SHUTDOWN` answers `OK`. The host's side of the port stays (log entry 11), and
the plane bytes become the model's free values of a new epoch (log entry 4). -/
def Obligations.ResetAndShutdownLeaveTheTable : Prop :=
  State.reset.AtReset ∧
  (∀ (s : State) (rest : List Event), s.inbox = .reset :: rest →
    ∃ t, step s = .next t ∧ t.AtReset ∧ t.inbox = rest ∧ t.outbox = s.outbox ∧ t.nfMemOk = s.nfMemOk ∧
      ∀ (p : Plane) (a : Nat), t.readPlane p a = Config.freePlaneByte (s.epoch + 1) p.number a) ∧
  (∀ s : State, ∃ t, exec .shutdown s = .next t ∧ t.AtReset ∧ t.inbox = s.inbox ∧
    t.outbox = ⟨0, 0⟩ :: s.outbox ∧ t.nfMemOk = s.nfMemOk ∧
    ∀ (p : Plane) (a : Nat), t.readPlane p a = Config.freePlaneByte (s.epoch + 1) p.number a)

/-! ### Block-level commands (spec/45_host_commands.md) -/

/-- `NOP` completes in every state and writes nothing (R220). -/
def Obligations.NopCompletes : Prop :=
  (∀ s : State, exec .nop s = .next { s with outbox := ⟨0, 0⟩ :: s.outbox }) ∧
  decode ⟨0, 0, 0, 0⟩ = .ok .nop ∧ encode .nop = ⟨0, 0, 0, 0⟩

/-- The four outcomes of `NFBUILD` (R221): refused in `FATAL`; nothing rebuilt when ready; the failed build enters
`FATAL`; the build fills the lattice. -/
def Obligations.NfbuildOutcomes : Prop :=
  ∀ s : State,
    (s.fatal = true → exec .nfbuild s = .next (s.errored .errFatal)) ∧
    (s.fatal = false → s.nfReady = true → exec .nfbuild s = .next (s.answered 0)) ∧
    (s.fatal = false → s.nfReady = false → s.nfMemOk = false →
      exec .nfbuild s = .next { s with fatal := true, lastErr := 0x09, outbox := ⟨9, 0⟩ :: s.outbox }) ∧
    (s.fatal = false → s.nfReady = false → s.nfMemOk = true →
      ∃ t, exec .nfbuild s = .next t ∧
        t = { s with nfReady := true, nf := t.nf, outbox := ⟨0, 0⟩ :: s.outbox } ∧
        ∀ i < 4096, t.lattice i = fmix32 (BitVec.ofNat 32 (i + 1) ^^^ 0x7F4A7C15))

/-- `NF.BUILD` (R101): the table is what the loop of the rule writes, over whatever the lattice memory held; its entries
have the closed form; the operation writes the lattice only; the worked entries. -/
def Obligations.LatticeIsTheWriteLoop : Prop :=
  (∀ (c : Config) (m : Memory 32), m.wf → (∀ e ∈ m, e.1 < c.noiseLen) →
    buildLoop c c.noiseLen 0 c.noiseCtr0 m = latticeTable c) ∧
  (∀ (c : Config) (i : Nat), i < c.noiseLen →
    Memory.read (latticeTable c) i = some (c.rngMix ((c.noiseCtr0 + BitVec.ofNat 32 (i + 1)) ^^^ c.noiseKey))) ∧
  (∀ (c : Config) (s : State), nfBuild c s = { s with nf := latticeTable c }) ∧
  Memory.read (latticeTable fse) 0 = some 0x5FA256DC ∧
  Memory.read (latticeTable fse) 1 = some 0x1154F231 ∧
  Memory.read (latticeTable fse) 2 = some 0xFC586D6F ∧
  Memory.read (latticeTable fse) 3 = some 0x62C72E9F ∧
  Memory.read (latticeTable fse) 4095 = some 0x478BCCD2

/-- The `FATAL` state (R269): how it is entered, what each command and an illegal packet answer in it, and that `SHUTDOWN`
leaves it. The environment input that a failed build reads is latched in `nfMemOk`, and an illegal packet comes through the
command port, the model's choices of log entries 1 and 3. That `RDCSR` of a reserved number answers `ERR_INDEX` in every
state stands in `RdcsrReadsTheMap`, and that the reset event leaves `FATAL` in `ResetAndShutdownLeaveTheTable`. -/
def Obligations.FatalStateInFull : Prop :=
  (∀ (i : Instr) (s t : State), s.fatal = false → exec i s = .next t → t.fatal = true →
    i = .nfbuild ∧ s.nfMemOk = false ∧ s.nfReady = false ∧ (s.FlagsOk → s.instValid = false)) ∧
  ∀ s : State, s.fatal = true →
    exec .nop s = .next (s.answered 0) ∧
    (∀ (sel : Nat) (r : Csr), Csr.ofSel sel = some r → exec (.rdcsr sel) s = .next (s.answered (readCsr fse s r))) ∧
    (s.FlagsOk → exec (.rdcsr 0x01) s = .next (s.answered 4)) ∧
    exec (.rdcsr 0x02) s = .next (s.answered (s.lastErr.setWidth 32)) ∧
    (∃ t, exec .shutdown s = .next t ∧ t.AtReset ∧ t.outbox = ⟨0, 0⟩ :: s.outbox) ∧
    (∀ i : Instr, ¬ servedInFatal i → exec i s = .next (s.errored .errFatal)) ∧
    (∀ (p : Packet) (b : Bool) (rest : List Event) (e : DecodeError),
      s.inbox = .packet p b :: rest → decode p = .error e →
        step s = .next ({ s with inbox := rest, nfMemOk := b }.errored .errIllegal))

/-! ### Instance commands -/

/-- `CONSTRUCT` with legal dimensions completes and leaves the state of R41; everything R41 does not name is unchanged.
The plane bytes become unspecified: each is the model's free value of a new epoch (log entry 4). -/
def Obligations.ConstructMakesTheInstance : Prop :=
  ∀ (s : State) (w h : Word), s.FieldLive → s.instValid = false → LegalFrame w h →
    ∃ t, exec (.construct w h) s = .next t ∧
      t.width.toNat = w.toNat ∧ t.height.toNat = h.toNat ∧ t.cw.toNat = w.toNat / 2 ∧ t.ch.toNat = h.toNat / 2 ∧
      t.params = ⟨655, 19661, 31457, 8520⟩ ∧ t.rngCtr = 0x00000F01 ∧ t.rngKey = 0x9E3779B9 ∧ t.instValid = true ∧
      t.fire = 0 ∧ t.fireStep = 0 ∧ t.ign = 0 ∧ t.phase = 0 ∧
      t.nf = s.nf ∧ t.nfReady = s.nfReady ∧ t.fatal = s.fatal ∧ t.lastErr = s.lastErr ∧
      t.cy = s.cy ∧ t.pl = s.pl ∧ t.cx = s.cx ∧ t.nfMemOk = s.nfMemOk ∧ t.inbox = s.inbox ∧
      t.outbox = ⟨0, 0⟩ :: s.outbox ∧
      ∀ (p : Plane) (a : Nat), t.readPlane p a = Config.freePlaneByte (s.epoch + 1) p.number a

/-- Where `CONSTRUCT` is refused, in the order of its checks (R223), and its corner cases. -/
def Obligations.ConstructRefusals : Prop :=
  ∀ (s : State) (w h : Word),
    (s.fatal = true → exec (.construct w h) s = .next (s.errored .errFatal)) ∧
    (s.fatal = false → s.nfReady = false → exec (.construct w h) s = .next (s.errored .errNotReady)) ∧
    (s.FieldLive → s.instValid = true → exec (.construct w h) s = .next (s.errored .errExists)) ∧
    (s.FieldLive → s.instValid = false → ¬ LegalFrame w h → exec (.construct w h) s = .next (s.errored .errDim)) ∧
    (s.FieldLive → s.instValid = false →
      exec (.construct 4098 2) s = .next (s.errored .errDim) ∧
      exec (.construct 0x10000040 64) s = .next (s.errored .errDim))

/-- `DESTROY` (R225): its checks, the instance released, lattice, `NF_READY` and `LASTERR` kept; a later `CONSTRUCT` is
admitted and starts the stream again from the seed. The plane bytes become the model's free values of a new epoch (log
entry 4). -/
def Obligations.DestroyReleasesTheInstance : Prop :=
  encode .destroy = ⟨0x00000011, 0, 0, 0⟩ ∧
  ∀ s : State,
    (s.fatal = true → exec .destroy s = .next (s.errored .errFatal)) ∧
    (s.fatal = false → s.instValid = false → exec .destroy s = .next (s.errored .errNoInstance)) ∧
    (s.Live → ∃ t, exec .destroy s = .next t ∧
      t.instValid = false ∧ t.width = 0 ∧ t.height = 0 ∧ t.cw = 0 ∧ t.ch = 0 ∧ t.params = ⟨0, 0, 0, 0⟩ ∧
      t.rngCtr = 0 ∧ t.rngKey = 0 ∧ t.fire = 0 ∧ t.fireStep = 0 ∧ t.ign = 0 ∧ t.phase = 0 ∧
      t.nf = s.nf ∧ t.nfReady = s.nfReady ∧ t.lastErr = s.lastErr ∧ t.fatal = s.fatal ∧
      t.cy = s.cy ∧ t.pl = s.pl ∧ t.cx = s.cx ∧ t.nfMemOk = s.nfMemOk ∧ t.inbox = s.inbox ∧
      t.outbox = ⟨0, 0⟩ :: s.outbox ∧
      (∀ (p : Plane) (a : Nat), t.readPlane p a = Config.freePlaneByte (s.epoch + 1) p.number a) ∧
      (s.nfReady = true → ∀ w h : Word, LegalFrame w h →
        ∃ u, exec (.construct w h) t = .next u ∧ u.instValid = true ∧ u.rngCtr = 0x00000F01 ∧ u.rngKey = 0x9E3779B9))

/-- `SETP` (R226): its checks in order; the selected control takes the whole 32-bit value and nothing else changes. -/
def Obligations.SetpWritesOneControl : Prop :=
  encode (.setp 0 0x00010000) = ⟨0x00000012, 0x00010000, 0, 0⟩ ∧ thrRnd fse 0x00010000 = 0 ∧
  ∀ (s : State) (sel : Nat) (v : Word),
    (s.fatal = true → exec (.setp sel v) s = .next (s.errored .errFatal)) ∧
    (s.fatal = false → s.instValid = false → exec (.setp sel v) s = .next (s.errored .errNoInstance)) ∧
    (s.Live → 3 < sel → exec (.setp sel v) s = .next (s.errored .errIndex)) ∧
    (s.Live →
      exec (.setp 0 v) s = .next { s with params := { s.params with rnd := v }, outbox := ⟨0, 0⟩ :: s.outbox } ∧
      exec (.setp 1 v) s = .next { s with params := { s.params with edge := v }, outbox := ⟨0, 0⟩ :: s.outbox } ∧
      exec (.setp 2 v) s = .next { s with params := { s.params with sat := v }, outbox := ⟨0, 0⟩ :: s.outbox } ∧
      exec (.setp 3 v) s = .next { s with params := { s.params with noise := v }, outbox := ⟨0, 0⟩ :: s.outbox })

/-- `GETP` (R227): its checks in order; the register as it is, no state written. -/
def Obligations.GetpReadsOneControl : Prop :=
  decode ⟨0x00000313, 0, 0, 0⟩ = .ok (.getp 3) ∧
  ∀ (s : State) (sel : Nat),
    (s.fatal = true → exec (.getp sel) s = .next (s.errored .errFatal)) ∧
    (s.fatal = false → s.instValid = false → exec (.getp sel) s = .next (s.errored .errNoInstance)) ∧
    (s.Live → 3 < sel → exec (.getp sel) s = .next (s.errored .errIndex)) ∧
    (s.Live →
      exec (.getp 0) s = .next (s.answered s.params.rnd) ∧
      exec (.getp 1) s = .next (s.answered s.params.edge) ∧
      exec (.getp 2) s = .next (s.answered s.params.sat) ∧
      exec (.getp 3) s = .next (s.answered s.params.noise)) ∧
    (s.FieldLive → s.instValid = false → ∀ w h : Word, LegalFrame w h →
      ∃ t, exec (.construct w h) s = .next t ∧ exec (.getp 3) t = .next (t.answered 0x00002148))

/-- `PROCESS` (R228) completes whatever `frame_time` says: it runs `FRAME` and answers `OK`. Its frame: it writes the chroma planes, `RNG_CTR` and the
hidden working registers; luma and every chroma byte from row 2·⌊CH/2⌋ on read as before, so with CH = 1 every byte does
and nothing is drawn (R197, R198). -/
def Obligations.ProcessCompletesAndFrames : Prop :=
  ∀ (s : State) (ft : Word),
    (s.fatal = true → exec (.process ft) s = .next (s.errored .errFatal)) ∧
    (s.fatal = false → s.instValid = false → exec (.process ft) s = .next (s.errored .errNoInstance)) ∧
    (s.Live → ∃ t, exec (.process ft) s = .next t ∧ (∀ ft' : Word, exec (.process ft') s = .next t) ∧
      t = { frame fse s with outbox := ⟨0, 0⟩ :: s.outbox } ∧
      t = { s with cb := t.cb, cr := t.cr, rngCtr := t.rngCtr, fire := t.fire, fireStep := t.fireStep, ign := t.ign,
                   phase := t.phase, cy := t.cy, pl := t.pl, cx := t.cx, outbox := ⟨0, 0⟩ :: s.outbox } ∧
      (∀ a, t.readPlane .luma a = s.readPlane .luma a) ∧
      (∀ (pl : Chroma) (a : Nat), 2 * (s.ch.toNat / 2) * s.cw.toNat ≤ a →
        t.readPlane (.chroma pl) a = s.readPlane (.chroma pl) a) ∧
      (s.ch.toNat ≤ 1 → t.cb = s.cb ∧ t.cr = s.cr ∧ t.rngCtr = s.rngCtr))

/-! ### Plane access commands -/

/-- `WRPX` (R230): its checks in order; one byte of the selected plane takes the value, every other byte of every plane
reads as before, nothing else changes; the corner cases on a 64×64 instance. -/
def Obligations.WrpxWritesOneByte : Prop :=
  encode (.wrpx 1 3 0 128) = ⟨0x00000120, 3, 0, 128⟩ ∧
  (∀ (s : State) (sel : Nat) (x y v : Word),
    (s.fatal = true → exec (.wrpx sel x y v) s = .next (s.errored .errFatal)) ∧
    (s.fatal = false → s.instValid = false → exec (.wrpx sel x y v) s = .next (s.errored .errNoInstance)) ∧
    (s.Live → 2 < sel → exec (.wrpx sel x y v) s = .next (s.errored .errIndex)) ∧
    (s.Live → ∀ p : Plane, PlaneSel sel p →
      ¬ (x.toNat < s.planeWidth p ∧ y.toNat < s.planeHeight p ∧ v.toNat ≤ 255) →
        exec (.wrpx sel x y v) s = .next (s.errored .errRange)) ∧
    (s.Live → ∀ p : Plane, PlaneSel sel p →
      x.toNat < s.planeWidth p → y.toNat < s.planeHeight p → v.toNat ≤ 255 →
        ∃ t, exec (.wrpx sel x y v) s = .next t ∧
          t = { s with ym := t.ym, cb := t.cb, cr := t.cr, outbox := ⟨0, 0⟩ :: s.outbox } ∧
          ∀ (q : Plane) (a : Nat), (t.readPlane q a).toNat =
            if q = p ∧ a = y.toNat * s.planeWidth p + x.toNat then v.toNat else (s.readPlane q a).toNat)) ∧
  (∀ s : State, s.Live → s.width = 64 → s.height = 64 → s.cw = 32 → s.ch = 32 →
    exec (.wrpx 1 32 0 1) s = .next (s.errored .errRange) ∧
    (∃ t, exec (.wrpx 0 32 0 1) s = .next t ∧ t.outbox = ⟨0, 0⟩ :: s.outbox) ∧
    exec (.wrpx 0 0 0 256) s = .next (s.errored .errRange))

/-- `RDPX` (R231): its checks in order; the byte at the pixel's address, zero-extended, and no state written. -/
def Obligations.RdpxReadsOneByte : Prop :=
  encode (.rdpx 2 3 1) = ⟨0x00000221, 3, 1, 0⟩ ∧
  ∀ (s : State) (sel : Nat) (x y : Word),
    (s.fatal = true → exec (.rdpx sel x y) s = .next (s.errored .errFatal)) ∧
    (s.fatal = false → s.instValid = false → exec (.rdpx sel x y) s = .next (s.errored .errNoInstance)) ∧
    (s.Live → 2 < sel → exec (.rdpx sel x y) s = .next (s.errored .errIndex)) ∧
    (s.Live → ∀ p : Plane, PlaneSel sel p → ¬ (x.toNat < s.planeWidth p ∧ y.toNat < s.planeHeight p) →
      exec (.rdpx sel x y) s = .next (s.errored .errRange)) ∧
    (s.Live → ∀ p : Plane, PlaneSel sel p → x.toNat < s.planeWidth p → y.toNat < s.planeHeight p →
      exec (.rdpx sel x y) s =
        .next (s.answered ((s.readPlane p (y.toNat * s.planeWidth p + x.toNat)).setWidth 32)))

/-- What `WRPX` writes `RDPX` reads back (R57: every location reads back the last value written to it). -/
def Obligations.WrpxThenRdpxAnswersTheValue : Prop :=
  ∀ (s : State) (sel : Nat) (p : Plane) (x y v : Word), s.Live → PlaneSel sel p →
    x.toNat < s.planeWidth p → y.toNat < s.planeHeight p → v.toNat ≤ 255 →
      ∃ t, exec (.wrpx sel x y v) s = .next t ∧ exec (.rdpx sel x y) t = .next (t.answered v)

/-! ### The pseudo-random stream (spec/41_prng.md) and its commands -/

/-- `RNGNEXT` (R233): its checks; the raw draw at the default configuration, `RNG_CTR` advanced by one, nothing else; the
worked first draw. -/
def Obligations.RngnextDraws : Prop :=
  encode .rngnext = ⟨0x00000030, 0, 0, 0⟩ ∧
  ∀ s : State,
    (s.fatal = true → exec .rngnext s = .next (s.errored .errFatal)) ∧
    (s.fatal = false → s.instValid = false → exec .rngnext s = .next (s.errored .errNoInstance)) ∧
    (s.Live → exec .rngnext s = .next { s with
      rngCtr := s.rngCtr + 1, outbox := ⟨0, fmix32 ((s.rngCtr + 1) ^^^ s.rngKey)⟩ :: s.outbox }) ∧
    (s.Live → s.rngCtr = 0x00000F01 → s.rngKey = 0x9E3779B9 →
      exec .rngnext s = .next { s with rngCtr := 0x00000F02, outbox := ⟨0, 0x7CE09155⟩ :: s.outbox })

/-- `RNGUNIF` (R234): its checks; the same bits and the same state as `RNGNEXT` in the same state. -/
def Obligations.RngunifDrawsTheSameBits : Prop :=
  encode .rngunif = ⟨0x00000031, 0, 0, 0⟩ ∧
  ∀ s : State,
    (s.fatal = true → exec .rngunif s = .next (s.errored .errFatal)) ∧
    (s.fatal = false → s.instValid = false → exec .rngunif s = .next (s.errored .errNoInstance)) ∧
    (s.Live → exec .rngunif s = .next { s with
      rngCtr := s.rngCtr + 1, outbox := ⟨0, fmix32 ((s.rngCtr + 1) ^^^ s.rngKey)⟩ :: s.outbox }) ∧
    exec .rngunif s = exec .rngnext s

/-- `RNGBOUND` (R235): its checks; every bound is legal, 0 too; the bounded draw, `RNG_CTR` advanced by one; the worked
draws. -/
def Obligations.RngboundDraws : Prop :=
  encode (.rngbound 65536) = ⟨0x00000032, 65536, 0, 0⟩ ∧
  ∀ (s : State) (n : Word),
    (s.fatal = true → exec (.rngbound n) s = .next (s.errored .errFatal)) ∧
    (s.fatal = false → s.instValid = false → exec (.rngbound n) s = .next (s.errored .errNoInstance)) ∧
    (s.Live → exec (.rngbound n) s = .next { s with
      rngCtr := s.rngCtr + 1,
      outbox := ⟨0, BitVec.ofNat 32 ((fmix32 ((s.rngCtr + 1) ^^^ s.rngKey)).toNat * n.toNat / 2 ^ 32)⟩ :: s.outbox }) ∧
    (s.Live → exec (.rngbound 0) s = .next { s with rngCtr := s.rngCtr + 1, outbox := ⟨0, 0⟩ :: s.outbox }) ∧
    (s.Live → s.rngCtr = 0x00000F01 → s.rngKey = 0x9E3779B9 →
      exec (.rngbound 65536) s = .next { s with rngCtr := 0x00000F02, outbox := ⟨0, 31968⟩ :: s.outbox })

/-- `RNG.BOUND(n)` (R125): one draw whatever is drawn; the result is below the bound, 0 for the bound 0, and the top k bits
of the raw draw for a bound 2^k; the worked values. -/
def Obligations.BoundedDrawIsBelowTheBound : Prop :=
  (∀ (c : Config) (n : Nat) (s : State),
    (rngBound c n s).2 = { s with rngCtr := s.rngCtr + 1 } ∧
    (rngBound c n s).1 = (c.rngMix ((s.rngCtr + 1) ^^^ s.rngKey)).toNat * n / 2 ^ 32 ∧
    (1 ≤ n → (rngBound c n s).1 < n) ∧
    (n = 0 → (rngBound c n s).1 = 0)) ∧
  (∀ (raw : Word) (k : Nat), k < 32 → boundedOf raw (2 ^ k) = (raw >>> (32 - k)).toNat) ∧
  (∀ (raw n : Word), raw.toNat * n.toNat < 2 ^ 64) ∧
  boundedOf 0x7CE09155 65536 = 31968 ∧ boundedOf 0x7CE09155 10 = 4 ∧ boundedOf 0x7CE09155 1 = 0 ∧
  boundedOf 0x7CE09155 0xFFFFFFFF = 0x7CE09154

/-- `RNG.NEXT` (R122): one draw advances the counter by one and writes nothing else; the n-th draw after seeding is
`RNG_MIX` of the seed's counter plus n; the wrap, after 2^32 draws the stream repeats; the worked draws. -/
def Obligations.NthDrawAfterSeeding : Prop :=
  (∀ (c : Config) (s : State),
    rngNext c s = (c.rngMix ((s.rngCtr + 1) ^^^ s.rngKey), { s with rngCtr := s.rngCtr + 1 })) ∧
  (∀ (c : Config) (s : State) (n : Nat),
    rngRaw c (rngAdvance^[n] (rngSeed c s)) = c.rngMix ((c.instCtr0 + BitVec.ofNat 32 (n + 1)) ^^^ c.instKey)) ∧
  (∀ (c : Config) (s : State), s.rngCtr = 0xFFFFFFFF →
    rngNext c s = (c.rngMix s.rngKey, { s with rngCtr := 0 })) ∧
  (∀ s : State, rngAdvance^[2 ^ 32] s = s) ∧
  (∀ s : State, (List.range 6).map (fun n => rngRaw fse (rngAdvance^[n] (rngSeed fse s))) =
    [0x7CE09155, 0xAD893775, 0xC601C69F, 0xD803CA55, 0x71F91B9D, 0x7727C4DA]) ∧
  (∀ s : State, (rngAdvance^[6] (rngSeed fse s)).rngCtr = 0x00000F07)

/-- `fmix32` (R121) is the rule's five operations, a bijection on 32-bit words with `fmix32(0) = 0`, and has the worked
values and intermediate values; it is the default `RNG_MIX`. -/
def Obligations.MixIsABijection : Prop :=
  (∀ h : Word, ∃ a b c d : Word,
    a = h ^^^ (h >>> 16) ∧ b = a * 0x85EBCA6B ∧ c = b ^^^ (b >>> 13) ∧ d = c * 0xC2B2AE35 ∧ fmix32 h = d ^^^ (d >>> 16) ∧
    (h = 1 → a = 0x00000001 ∧ b = 0x85EBCA6B ∧ c = 0x85EFE535 ∧ d = 0x514E79F9)) ∧
  (∀ h : Word, fse.rngMix h = fmix32 h) ∧
  Function.Bijective fmix32 ∧ fmix32 0 = 0 ∧ fmix32 1 = 0x514E28B7 ∧ fmix32 2 = 0x30F4C306 ∧
  fmix32 3 = 0x85F0B427 ∧ fmix32 0x80000000 = 0x6D3C65A0 ∧ fmix32 0x9E3779B9 = 0x92CA2F0E ∧
  fmix32 0xFFFFFFFF = 0x81F16F39

/-! ### The noise field (spec/40_noise_field.md) and its commands -/

/-- The smoothstep numerator (R103): exact, in 0..D−1, 0 at 0, increasing, and its sixteen values for sh = 4. -/
def Obligations.SmoothstepIsExactAndBelowOne : Prop :=
  (∀ sh tn : Nat, tn < 2 ^ sh →
    (smoothstep sh tn : Int) = 3 * (tn : Int) ^ 2 * 2 ^ sh - 2 * (tn : Int) ^ 3 ∧ smoothstep sh tn < 2 ^ (3 * sh)) ∧
  (∀ sh : Nat, smoothstep sh 0 = 0) ∧
  (∀ sh tn un : Nat, tn < un → un < 2 ^ sh → smoothstep sh tn < smoothstep sh un) ∧
  (List.range 16).map (smoothstep 4) =
    [0, 46, 176, 378, 640, 950, 1296, 1666, 2048, 2430, 2800, 3146, 3456, 3718, 3920, 4050]

/-- The field is periodic (R107 ii): one period of the lattice further the sample is the same. -/
def Obligations.NoiseFieldIsPeriodic : Prop :=
  ∀ (c : Config) (L : Nat → Word) (coord sh : Nat) (an : Int),
    sampleNum c L (coord + c.noiseLen * 2 ^ sh) sh = sampleNum c L coord sh ∧
    sampleQ16 c L (coord + c.noiseLen * 2 ^ sh) an sh = sampleQ16 c L coord an sh

/-- The result of `NFSAMPLE` (R106): at most the amplitude in size, so it fits 32 bits, and truncating it again gives the
truncated sample. -/
def Obligations.SampleFitsTheResultWord : Prop :=
  ∀ (c : Config) (L : Nat → Word) (coord sh : Nat) (an : Int), -2 ^ 31 ≤ an → an < 2 ^ 31 →
    sampleQ16 c L coord an sh = truncz (sampleNum c L coord sh * an) (2 ^ (3 * sh) * 2 ^ 32) ∧
    |sampleQ16 c L coord an sh| ≤ |an| ∧
    (BitVec.ofInt 32 (sampleQ16 c L coord an sh)).toInt = sampleQ16 c L coord an sh ∧
    truncz (sampleQ16 c L coord an sh) (2 ^ 16) = truncz (sampleNum c L coord sh * an) (2 ^ (3 * sh) * 2 ^ 48)

/-- The noise delta (R183): for a positive amplitude in 0..floor(AN/65536) and below AN/65536, for a negative one the
mirror image, for none 0. -/
def Obligations.NoiseDeltaIsBounded : Prop :=
  ∀ (c : Config) (L : Nat → Word) (coord sh : Nat) (an : Int),
    (0 < an → 0 ≤ sampleDelta c L coord an sh ∧ sampleDelta c L coord an sh ≤ an / 65536 ∧
      sampleDelta c L coord an sh * 65536 < an) ∧
    (an < 0 → -(-an / 65536) ≤ sampleDelta c L coord an sh ∧ sampleDelta c L coord an sh ≤ 0) ∧
    (an = 0 → sampleDelta c L coord an sh = 0)

/-- `NFSAMPLE` (R236): its checks in order; the sample of R106 from the lattice; no state written, no instance needed; the
worked examples. -/
def Obligations.NfsampleAnswersTheSample : Prop :=
  encode (.nfsample 31973 4194304 4) = ⟨0x00000033, 31973, 4194304, 4⟩ ∧
  (∀ s : State, s.FieldLive → s.LatticeOk →
    exec (.nfsample 31973 4194304 4) s = .next (s.answered 0x002ED9F1) ∧
    exec (.nfsample 5 (BitVec.ofInt 32 (-4194304)) 4) s = .next (s.answered 0xFFECA1B8)) ∧
  ∀ (s : State) (coord amp shift : Word),
    (s.fatal = true → exec (.nfsample coord amp shift) s = .next (s.errored .errFatal)) ∧
    (s.fatal = false → s.nfReady = false → exec (.nfsample coord amp shift) s = .next (s.errored .errNotReady)) ∧
    (s.FieldLive → 8 < shift.toNat → exec (.nfsample coord amp shift) s = .next (s.errored .errRange)) ∧
    (s.FieldLive → shift.toNat ≤ 8 →
      ∃ r : Word, exec (.nfsample coord amp shift) s = .next (s.answered r) ∧
        r.toInt = truncz (sampleNum fse s.lattice coord.toNat shift.toNat * amp.toInt)
          (2 ^ (3 * shift.toNat) * 2 ^ 32))

/-- `NFREAD` (R237): its checks in order; the index is checked, not masked; the lattice word; no state written; the worked
examples. -/
def Obligations.NfreadAnswersTheWord : Prop :=
  encode (.nfread 0) = ⟨0x00000034, 0, 0, 0⟩ ∧
  (∀ (s : State) (index : Word),
    (s.fatal = true → exec (.nfread index) s = .next (s.errored .errFatal)) ∧
    (s.fatal = false → s.nfReady = false → exec (.nfread index) s = .next (s.errored .errNotReady)) ∧
    (s.FieldLive → 4096 ≤ index.toNat → exec (.nfread index) s = .next (s.errored .errRange)) ∧
    (s.FieldLive → index.toNat < 4096 → exec (.nfread index) s = .next (s.answered (s.lattice index.toNat)))) ∧
  (∀ s : State, s.FieldLive → s.LatticeOk →
    exec (.nfread 0) s = .next (s.answered 0x5FA256DC) ∧ exec (.nfread 4096) s = .next (s.errored .errRange))

/-! ### Register read -/

/-- `RDCSR` (R238) over the map of R36: every register of the map answers its contents in every state, whatever the flags;
every other number is reserved and answers `ERR_INDEX`; nothing is written. `ID` reads `FSE_ID` (R38). -/
def Obligations.RdcsrReadsTheMap : Prop :=
  decode ⟨0x00000040, 0, 0, 0⟩ = .ok (.rdcsr 0) ∧ decode ⟨0x00000140, 0, 0, 0⟩ = .ok (.rdcsr 1) ∧
  ∀ s : State,
    exec (.rdcsr 0x00) s = .next (s.answered 0x53454346) ∧
    (∃ v : Word, exec (.rdcsr 0x01) s = .next (s.answered v) ∧
      v.toNat = s.nfReady.toNat + 2 * s.instValid.toNat + 4 * s.fatal.toNat) ∧
    (s.FieldLive → s.instValid = true → exec (.rdcsr 0x01) s = .next (s.answered 3)) ∧
    exec (.rdcsr 0x02) s = .next (s.answered (s.lastErr.setWidth 32)) ∧
    exec (.rdcsr 0x03) s = .next (s.answered (s.width.setWidth 32)) ∧
    exec (.rdcsr 0x04) s = .next (s.answered (s.height.setWidth 32)) ∧
    exec (.rdcsr 0x05) s = .next (s.answered (s.cw.setWidth 32)) ∧
    exec (.rdcsr 0x06) s = .next (s.answered (s.ch.setWidth 32)) ∧
    exec (.rdcsr 0x08) s = .next (s.answered s.params.rnd) ∧
    exec (.rdcsr 0x09) s = .next (s.answered s.params.edge) ∧
    exec (.rdcsr 0x0A) s = .next (s.answered s.params.sat) ∧
    exec (.rdcsr 0x0B) s = .next (s.answered s.params.noise) ∧
    exec (.rdcsr 0x10) s = .next (s.answered s.rngCtr) ∧
    exec (.rdcsr 0x11) s = .next (s.answered s.rngKey) ∧
    (∀ sel : Nat, sel ∉ [0x00, 0x01, 0x02, 0x03, 0x04, 0x05, 0x06, 0x08, 0x09, 0x0A, 0x0B, 0x10, 0x11] →
      exec (.rdcsr sel) s = .next (s.errored .errIndex))

/-! ### Status codes and admission (spec/60_exceptions.md) -/

/-- The order of the checks (R263): for every command, the first check that fails decides, whatever the later ones would
say. -/
def Obligations.ChecksDecideInOrder : Prop :=
  ∀ s : State,
    (∀ (p : Packet) (b : Bool) (rest : List Event) (e : DecodeError),
      s.inbox = .packet p b :: rest → decode p = .error e →
        step s = .next ({ s with inbox := rest, nfMemOk := b }.errored .errIllegal)) ∧
    (∀ i, s.fatal = true → ¬ servedInFatal i → exec i s = .next (s.errored .errFatal)) ∧
    (∀ i, s.fatal = false → needsField i → s.nfReady = false → exec i s = .next (s.errored .errNotReady)) ∧
    (∀ i, s.fatal = false → needsInstance i → s.instValid = false → exec i s = .next (s.errored .errNoInstance)) ∧
    (∀ w h, s.FieldLive → s.instValid = true → exec (.construct w h) s = .next (s.errored .errExists)) ∧
    (∀ sel x y v, s.Live →
      (3 < sel → exec (.setp sel v) s = .next (s.errored .errIndex) ∧
        exec (.getp sel) s = .next (s.errored .errIndex)) ∧
      (2 < sel → exec (.wrpx sel x y v) s = .next (s.errored .errIndex) ∧
        exec (.rdpx sel x y) s = .next (s.errored .errIndex))) ∧
    (∀ sel, Csr.ofSel sel = none → exec (.rdcsr sel) s = .next (s.errored .errIndex)) ∧
    (∀ w h, s.FieldLive → s.instValid = false → ¬ LegalFrame w h →
      exec (.construct w h) s = .next (s.errored .errDim)) ∧
    (∀ sel p x y v, s.Live → PlaneSel sel p →
      (¬ (x.toNat < s.planeWidth p ∧ y.toNat < s.planeHeight p ∧ v.toNat ≤ 255) →
        exec (.wrpx sel x y v) s = .next (s.errored .errRange)) ∧
      (¬ (x.toNat < s.planeWidth p ∧ y.toNat < s.planeHeight p) →
        exec (.rdpx sel x y) s = .next (s.errored .errRange))) ∧
    (∀ k a sh, s.FieldLive → 8 < sh.toNat → exec (.nfsample k a sh) s = .next (s.errored .errRange)) ∧
    (∀ n, s.FieldLive → 4096 ≤ n.toNat → exec (.nfread n) s = .next (s.errored .errRange))

/-- A command that ends with an error status writes `LASTERR`, for a failed `NFBUILD` also `FATAL`, and nothing else; a
command that ends `OK` does not write `LASTERR`, but for `SHUTDOWN`, which clears it (R266, R222; log entry 22). -/
def Obligations.RefusedCommandsChangeNothing : Prop :=
  ∀ (i : Instr) (s t : State) (r : Response), exec i s = .next t → t.outbox = r :: s.outbox →
    (r.r0 ≠ 0 →
      t = { s with lastErr := r.r0.setWidth 8, fatal := s.fatal || r.r0 == 9, outbox := ⟨r.r0, 0⟩ :: s.outbox }) ∧
    (r.r0 = 9 → i = .nfbuild) ∧
    (r.r0 = 0 → i ≠ .shutdown → t.lastErr = s.lastErr)

/-- Every command returns exactly one response (R75): the status code zero-extended, and a result word that is 0 unless the
status is `OK` and the command has a result. -/
def Obligations.EveryCommandAnswersOnce : Prop :=
  ∀ (i : Instr) (s : State), ∃ (t : State) (st : Status) (v : Word),
    exec i s = .next t ∧ t.outbox = ⟨st.code.setWidth 32, v⟩ :: s.outbox ∧ t.inbox = s.inbox ∧
    (st ≠ .ok → v = 0) ∧ (givesNoResult i → v = 0)

/-- The step relation is total (R276): from any state, no run faults or is refused. -/
def Obligations.RunsNeverStop : Prop := ∀ s : State, NeverStops s

/-! ### Parameter model and detectors (spec/42_params.md, spec/43_detectors.md) -/

/-- `IGN.TEST` (R165): the machine's integer comparisons are the strict comparisons of exact rationals, with the
thresholds and the jitter as the rules give them. -/
def Obligations.IgnitionTestIsTheRationalOne : Prop :=
  ∀ (c : Config), c.Valid → ∀ (s : State) (ui uj : Word) (cdn : Nat) (edgeN : Int),
    ignTest c s ui uj cdn edgeN = true ↔
      ((ui.toNat : ℚ) / 2 ^ 32 >
        1 - ((c.kR : ℚ) / 2 ^ 16) * ((s.params.rnd.toInt : ℚ) / 2 ^ 16) ^ 2) ∨
      ((cdn : ℚ) / 2 ^ 8 >
        (1 - ((c.kC : ℚ) / 2 ^ 16) * ((s.params.sat.toInt : ℚ) / 2 ^ 16)) +
          ((c.jitterScale : ℚ) / 65536) * ((uj.toNat : ℚ) / 2 ^ 32)) ∨
      ((edgeN : ℚ) / 2 ^ 26 >
        (1 - ((c.kL : ℚ) / 2 ^ 16) * ((s.params.edge.toInt : ℚ) / 2 ^ 16)) +
          ((c.jitterScale : ℚ) / 65536) * ((uj.toNat : ℚ) / 2 ^ 32))

/-- With the three ignition controls at 0 the thresholds are exactly 1 and no ignition can happen, for every valid
configuration; the two draws are still made (R149). -/
def Obligations.ZeroControlsNeverIgnite : Prop :=
  ∀ (c : Config), c.Valid → ∀ s : State, s.params.rnd = 0 → s.params.edge = 0 → s.params.sat = 0 →
    thrRnd c 0 = 2 ^ 48 ∧ thrLuma c 0 = 2 ^ 48 ∧ thrChroma c 0 = 2 ^ 48 ∧
    ∀ (pl : Chroma) (cy cx : Nat) (ui uj : Word),
      edgeValue c s cy cx = 0 ∧
      ignTest c s ui uj (chromaDiff s cy cx) (edgeValue c s cy cx) = false ∧
      ignStep c pl cy cx (edgeValue c s cy cx) s = { s with rngCtr := s.rngCtr + 2 }

/-- The edge value (R160 to R162): the difference is that of the sums A and B over the eight luma bytes of rows 2cy and
2cy + 1 and columns 2cx to 2cx + 3, and is at most 1020; the value is 0 at the last column or with the edge control not
positive, otherwise the remap of the difference; at the defaults it lies in 20132864..46871144. -/
def Obligations.EdgeValueIsTheRemap : Prop :=
  (∀ (c : Config) (s : State) (cy cx : Nat), 0 < s.params.edge.toInt → cx + 1 ≠ s.cw.toNat →
    edgeValue c s cy cx = c.edgeLo * 2 ^ c.edgeNormLog2 + edgeDiff s cy cx * c.edgeSpan) ∧
  ∀ (s : State) (cy cx : Nat),
    (edgeDiff s cy cx : Int) =
      |(s.lumaValue (2 * cy) (2 * cx) + s.lumaValue (2 * cy) (2 * cx + 1) +
          s.lumaValue (2 * cy + 1) (2 * cx) + s.lumaValue (2 * cy + 1) (2 * cx + 1)) -
        (s.lumaValue (2 * cy) (2 * cx + 2) + s.lumaValue (2 * cy) (2 * cx + 3) +
          s.lumaValue (2 * cy + 1) (2 * cx + 2) + s.lumaValue (2 * cy + 1) (2 * cx + 3))| ∧
    edgeDiff s cy cx ≤ 1020 ∧
    (s.params.edge.toInt ≤ 0 ∨ cx + 1 = s.cw.toNat → edgeValue fse s cy cx = 0) ∧
    (0 < s.params.edge.toInt → cx + 1 ≠ s.cw.toNat →
      edgeValue fse s cy cx = 19661 * 2 ^ 10 + edgeDiff s cy cx * 26214 ∧
      20132864 ≤ edgeValue fse s cy cx ∧ edgeValue fse s cy cx ≤ 46871144)

/-! ### The fire engine (spec/44_fire_engine.md) -/

/-- `PIX.ADDSAT` (R180): the pixel takes the clamped sum, a value in 0..255; every other byte of every plane reads as
before; a delta of 0 rewrites the same value; each addition starts from the clamped value. -/
def Obligations.PixelAddSaturates : Prop :=
  (∀ (pl : Chroma) (y x : Nat) (d : Int) (s : State),
    (((pixAddSat pl y x d s).chromaAt pl y x).toNat : Int) = max 0 (min 255 ((s.chromaAt pl y x).toNat + d)) ∧
    (∀ (q : Plane) (a : Nat), ¬ (q = .chroma pl ∧ a = y * s.cw.toNat + x) →
      (pixAddSat pl y x d s).readPlane q a = s.readPlane q a) ∧
    pixAddSat pl y x d s = { s with cb := (pixAddSat pl y x d s).cb, cr := (pixAddSat pl y x d s).cr } ∧
    (pixAddSat pl y x 0 s).chromaAt pl y x = s.chromaAt pl y x ∧
    ((s.chromaAt pl y x).toNat = 255 → 0 < d → ((pixAddSat pl y x d s).chromaAt pl y x).toNat = 255) ∧
    ((s.chromaAt pl y x).toNat = 0 → d < 0 → ((pixAddSat pl y x d s).chromaAt pl y x).toNat = 0) ∧
    ((s.chromaAt pl y x).toNat = 200 →
      ((pixAddSat pl y x 100 s).chromaAt pl y x).toNat = 255 ∧
      ((pixAddSat pl y x 100 (pixAddSat pl y x 100 s)).chromaAt pl y x).toNat = 255)) ∧
  clamp8 (225 + 121) = 255 ∧ clamp8 (3 + -8) = 0

/-- `PIX.ADD2` (R181): the same delta on the even row and on its paired odd row, each clamped on its own, and no other byte
of any plane. -/
def Obligations.PixelAddBleedsToTheRowPair : Prop :=
  ∀ (pl : Chroma) (cy cx : Nat) (d : Int) (s : State), s.cw ≠ 0 →
    (((pixAdd2 pl cy cx d s).chromaAt pl cy cx).toNat : Int) = max 0 (min 255 ((s.chromaAt pl cy cx).toNat + d)) ∧
    (((pixAdd2 pl cy cx d s).chromaAt pl (cy + 1) cx).toNat : Int) =
      max 0 (min 255 ((s.chromaAt pl (cy + 1) cx).toNat + d)) ∧
    ∀ (q : Plane) (a : Nat),
      ¬ (q = .chroma pl ∧ (a = cy * s.cw.toNat + cx ∨ a = (cy + 1) * s.cw.toNat + cx)) →
        (pixAdd2 pl cy cx d s).readPlane q a = s.readPlane q a

/-- `NOISE.INJECT` (R182): skipped with the noise control 0; otherwise both rows of the pair take the clamped sum with the
truncated sample at the coordinate `PHASE + cy · CW + cx`, no other byte changes and nothing is drawn; for a positive noise
control the delta is never negative; the coordinate is below 2^23 in the states of an instance; the worked example. -/
def Obligations.NoiseInjectAddsTheSample : Prop :=
  (∀ (c : Config) (pl : Chroma) (cy cx : Nat) (s : State),
    (s.params.noise = 0 → noiseInject c pl cy cx s = s) ∧
    (0 < s.params.noise.toInt → 0 ≤ noiseDelta c s cy cx) ∧
    (s.params.noise ≠ 0 → s.cw ≠ 0 →
      (∀ y, y = cy ∨ y = cy + 1 → (((noiseInject c pl cy cx s).chromaAt pl y cx).toNat : Int) =
        max 0 (min 255 ((s.chromaAt pl y cx).toNat +
          truncz (sampleNum c s.lattice (s.phase.toNat + cy * s.cw.toNat + cx) c.noiseShift *
            (s.params.noise.toInt * c.noiseAmp)) (2 ^ (3 * c.noiseShift) * 2 ^ 48)))) ∧
      (∀ (q : Plane) (a : Nat),
        ¬ (q = .chroma pl ∧ (a = cy * s.cw.toNat + cx ∨ a = (cy + 1) * s.cw.toNat + cx)) →
          (noiseInject c pl cy cx s).readPlane q a = s.readPlane q a) ∧
      noiseInject c pl cy cx s =
        { s with cb := (noiseInject c pl cy cx s).cb, cr := (noiseInject c pl cy cx s).cr })) ∧
  (∀ (s : State) (cy cx : Nat), s.DimsOk → s.instValid = true → s.FireOk → cy + 1 < s.ch.toNat → cx < s.cw.toNat →
    s.phase.toNat + cy * s.cw.toNat + cx < 2 ^ 23) ∧
  (∀ s : State, s.FieldLive → s.LatticeOk → s.params.noise = 8520 → s.phase = 31968 →
    sampleNum fse s.lattice 31968 4 = 12085160247296 ∧ noiseDelta fse s 0 0 = 5 ∧
    sampleNum fse s.lattice 31973 4 = 12878398263046 ∧ noiseDelta fse s 0 5 = 6)

/-- The two branches of the continuation at the defaults (R186, R187), in states whose fire state is in range: the ramp
adds floor(15·dx·FIRE/100) and keeps the fire state; the decay adds FIRE, then takes STEP from it. -/
def Obligations.FlareContinuesByRampOrDecay : Prop :=
  ∀ (pl : Chroma) (cy cx : Nat) (s : State), s.FireOk → s.cw ≠ 0 →
    (flareDx s cx < 6 →
      (flareCont fse pl cy cx s).fire = s.fire ∧ (flareCont fse pl cy cx s).fireStep = s.fireStep ∧
      (flareCont fse pl cy cx s).ign = s.ign ∧
      ∀ y, y = cy ∨ y = cy + 1 → (((flareCont fse pl cy cx s).chromaAt pl y cx).toNat : Int) =
        max 0 (min 255 ((s.chromaAt pl y cx).toNat + 15 * flareDx s cx * s.fire.toInt / 100))) ∧
    (6 ≤ flareDx s cx →
      (flareCont fse pl cy cx s).fire.toInt = s.fire.toInt - s.fireStep.toNat ∧
      (flareCont fse pl cy cx s).fireStep = s.fireStep ∧ (flareCont fse pl cy cx s).ign = s.ign ∧
      ∀ y, y = cy ∨ y = cy + 1 → (((flareCont fse pl cy cx s).chromaAt pl y cx).toNat : Int) =
        max 0 (min 255 ((s.chromaAt pl y cx).toNat + s.fire.toInt)))

/-- `FLARE.IGNITE` (R190) at the defaults: intensity, step and column; the room is at least 1 and the intensity below it
for every valid configuration; the corner cases and the worked example. -/
def Obligations.IgnitionSetsTheFireState : Prop :=
  (∀ (pl : Chroma) (cy cx : Nat) (ui : Word) (s : State), cx < 2048 →
    (flareIgnite fse pl cy cx ui s).fire.toInt = ui.toNat * (256 - (s.chromaAt pl cy cx).toNat) / 2 ^ 32 ∧
    (flareIgnite fse pl cy cx ui s).fireStep.toNat = max 4 ((256 - (s.chromaAt pl cy cx).toNat) / 8) ∧
    (flareIgnite fse pl cy cx ui s).ign.toNat = cx) ∧
  (∀ (c : Config), c.Valid → ∀ (ui : Word) (pix : Byte),
    1 ≤ c.fireCeil - pix.toNat ∧ igniteFire c ui pix.toNat < c.fireCeil - pix.toNat ∧
    c.stepMin ≤ igniteStep c pix.toNat) ∧
  (∀ ui : Word, igniteFire fse ui 255 = 0 ∧ igniteStep fse 255 = 4 ∧ igniteFire fse ui 0 ≤ 255 ∧
    igniteStep fse 0 = 32) ∧
  igniteFire fse 0xFFFC0A71 134 = 121 ∧ igniteStep fse 134 = 15

/-- An ignition writes no pixel (R191): a column that reaches the ignition test changes pixels by its noise step only, and
after an ignition the next column is at dx = 1, where the ramp adds 0.15 of the intensity. -/
def Obligations.IgnitionWritesNoPixel : Prop :=
  (∀ (c : Config) (pl : Chroma) (cy cx : Nat) (ui : Word) (s : State) (q : Plane) (a : Nat),
    (flareIgnite c pl cy cx ui s).readPlane q a = s.readPlane q a) ∧
  (∀ (c : Config) (pl : Chroma) (cy cx : Nat) (s : State) (q : Plane) (a : Nat), s.fire.toInt < c.fireMin →
    (column c pl cy cx s).readPlane q a = (noiseInject c pl cy cx s).readPlane q a) ∧
  (∀ (pl : Chroma) (cy cx : Nat) (ui : Word) (s : State), cx < 2048 →
    flareDx (flareIgnite fse pl cy cx ui s) (cx + 1) = 1) ∧
  (∀ f : Int, rampAdd fse 1 f = 15 * f / 100)

/-- The draws of a pass and of a column, in their order: `PASS.START` (R194) draws the phase and clears the fire state;
`IGN.STEP` (R188) draws the jitter, then the ignition decision, tests with the chroma difference of the column (R163), and
ignites with the second draw; `COLUMN` (R195) injects noise, then continues a flare or tests for an ignition. -/
def Obligations.PassAndColumnDrawInOrder : Prop :=
  (∀ s : State, passStart fse s = { s with
    rngCtr := s.rngCtr + 1, fire := 0, fireStep := 0, ign := 0,
    phase := BitVec.ofNat 24 ((fmix32 ((s.rngCtr + 1) ^^^ s.rngKey)).toNat * 65536 / 2 ^ 32) }) ∧
  (∀ s : State, s.rngCtr = 0x00000F01 → s.rngKey = 0x9E3779B9 → (passStart fse s).phase = 31968) ∧
  (∀ (c : Config) (pl : Chroma) (cy cx : Nat) (e : Int) (s : State),
    ignStep c pl cy cx e s =
      if ignTest c s (c.rngMix ((s.rngCtr + 2) ^^^ s.rngKey)) (c.rngMix ((s.rngCtr + 1) ^^^ s.rngKey))
          (((s.chromaAt .cb cy cx).toNat : Int) - (s.chromaAt .cr cy cx).toNat).natAbs e then
        flareIgnite c pl cy cx (c.rngMix ((s.rngCtr + 2) ^^^ s.rngKey)) { s with rngCtr := s.rngCtr + 2 }
      else { s with rngCtr := s.rngCtr + 2 }) ∧
  (∀ (c : Config) (pl : Chroma) (cy cx : Nat) (s : State),
    ((c.fireMin : Int) ≤ s.fire.toInt →
      column c pl cy cx s = flareCont c pl cy cx (noiseInject c pl cy cx s)) ∧
    (s.fire.toInt < c.fireMin →
      column c pl cy cx s = ignStep c pl cy cx (edgeValue c s cy cx) (noiseInject c pl cy cx s)))

/-- The derived state machine (R192) over one column step, in states whose fire state is in range: from IDLE to IDLE or
RAMPING with two draws; from RAMPING to RAMPING or DECAYING by the distance, with no draw; from DECAYING to DECAYING or
IDLE by the reduced intensity, with no draw; and the fire state stays in range. -/
def Obligations.FlareStatesMoveAsTheRuleSays : Prop :=
  ∀ (pl : Chroma) (cy cx : Nat) (s : State), s.FireOk → s.ign.toNat ≤ cx → cx < 2048 →
    (column fse pl cy cx s).FireOk ∧ (column fse pl cy cx s).ign.toNat ≤ cx ∧
    (flareState fse s cx = .idle →
      flareState fse (column fse pl cy cx s) (cx + 1) ≠ .decaying ∧
      (column fse pl cy cx s).rngCtr = s.rngCtr + 2) ∧
    (flareState fse s cx = .ramping →
      flareState fse (column fse pl cy cx s) (cx + 1) = (if flareDx s cx + 1 < 6 then .ramping else .decaying) ∧
      (column fse pl cy cx s).rngCtr = s.rngCtr) ∧
    (flareState fse s cx = .decaying →
      flareState fse (column fse pl cy cx s) (cx + 1) =
        (if 16 ≤ s.fire.toInt - s.fireStep.toNat then .decaying else .idle) ∧
      (column fse pl cy cx s).rngCtr = s.rngCtr)

/-- The profile of one flare (R193), with noise off so that nothing else is added: n columns after an ignition at column
c0, as long as the flare lasts, both rows of the pair hold the clamped sums of the profile, the ignition column and every
other byte are unchanged, and nothing is drawn. -/
def Obligations.FlareFollowsItsProfile : Prop :=
  ∀ (pl : Chroma) (cy c0 n : Nat) (s : State),
    s.params.noise = 0 → 16 ≤ s.fire.toInt → s.fire.toInt ≤ 255 → s.fireStep.toNat ≤ 32 → s.ign.toNat = c0 →
    c0 + n < s.cw.toNat → (n ≤ 5 ∨ 16 ≤ s.fire.toInt - ((n : Int) - 6) * s.fireStep.toNat) →
      (∀ (k y : Nat), 1 ≤ k → k ≤ n → y = cy ∨ y = cy + 1 →
        (((forColumns fse pl cy n (c0 + 1) s).chromaAt pl y (c0 + k)).toNat : Int) =
          max 0 (min 255 ((s.chromaAt pl y (c0 + k)).toNat + flareProfile s.fire.toInt s.fireStep.toNat k))) ∧
      (∀ (q : Plane) (a : Nat),
        (∀ (k y : Nat), 1 ≤ k → k ≤ n → y = cy ∨ y = cy + 1 → ¬ (q = .chroma pl ∧ a = y * s.cw.toNat + (c0 + k))) →
          (forColumns fse pl cy n (c0 + 1) s).readPlane q a = s.readPlane q a) ∧
      (forColumns fse pl cy n (c0 + 1) s).rngCtr = s.rngCtr

/-- The traversal (R196) is the while loop of the rule: rows 0, 2, 4, ... below CH − 1, Cb then Cr, columns ascending. -/
def Obligations.FrameIsTheWhileLoop : Prop :=
  ∀ (c : Config) (s : State) (fuel : Nat), s.ch.toNat ≤ fuel → frame c s = whileRows c fuel 0 { s with cy := 0 }

/-- The draw count of one `PROCESS` (R127): NP·(1 + 2·CW) − 2·NC draws, with NP = 2·⌈(CH − 1)/2⌉ passes, none for CH = 1, and
NC continuation columns; 2080 for CW = CH = 32 without a flare. -/
def Obligations.DrawCountOfOneFrame : Prop :=
  (∀ (c : Config) (s : State), ∃ np draws : Nat,
    (2 ≤ s.ch.toNat → np = 2 * ((s.ch.toNat - 1 + 1) / 2)) ∧ (s.ch.toNat ≤ 1 → np = 0) ∧
    draws + 2 * frameContinuations c s = np * (1 + 2 * s.cw.toNat) ∧
    (frame c s).rngCtr = s.rngCtr + BitVec.ofNat 32 draws) ∧
  (∀ (c : Config) (s : State), s.cw = 32 → s.ch = 32 → frameContinuations c s = 0 →
    (frame c s).rngCtr = s.rngCtr + 2080)

/-- With the ignition controls at 0 and the noise control not negative, `PROCESS` adds to every chroma byte at most the
bound of R183, never less than nothing, and saturates; with the noise control 0 too every byte reads as before; the draws
are all made (S2, S3, S7 of spec/95). -/
def Obligations.NoiseOnlyFrameStaysInItsBound : Prop :=
  ∀ (s : State) (ft : Word), s.Live → s.params.rnd = 0 → s.params.edge = 0 → s.params.sat = 0 →
    0 ≤ s.params.noise.toInt →
      ∃ t, exec (.process ft) s = .next t ∧
        (∀ (pl : Chroma) (a : Nat),
          (s.readPlane (.chroma pl) a).toNat ≤ (t.readPlane (.chroma pl) a).toNat ∧
          ((t.readPlane (.chroma pl) a).toNat : Int) ≤
            (s.readPlane (.chroma pl) a).toNat + s.params.noise.toInt * 64 / 65536) ∧
        (s.params.noise = 0 → ∀ (pl : Chroma) (a : Nat),
          t.readPlane (.chroma pl) a = s.readPlane (.chroma pl) a) ∧
        t.rngCtr = s.rngCtr + BitVec.ofNat 32 (2 * (s.ch.toNat / 2) * (1 + 2 * s.cw.toNat))

/-- What a frame does not read: whatever the hidden working registers hold before it (R34), and, with the edge control not
positive, whatever `YM` holds (R162), the chroma planes and the stream come out the same. -/
def Obligations.FrameIgnoresHiddenRegistersAndUnusedLuma : Prop :=
  (∀ (s : State) (f : BitVec 10) (d : BitVec 6) (g : BitVec 11) (ph : BitVec 24) (y x : BitVec 11) (pl : Chroma),
    (frame fse { s with fire := f, fireStep := d, ign := g, phase := ph, cy := y, pl := pl, cx := x }).cb =
      (frame fse s).cb ∧
    (frame fse { s with fire := f, fireStep := d, ign := g, phase := ph, cy := y, pl := pl, cx := x }).cr =
      (frame fse s).cr ∧
    (frame fse { s with fire := f, fireStep := d, ign := g, phase := ph, cy := y, pl := pl, cx := x }).rngCtr =
      (frame fse s).rngCtr) ∧
  ∀ (s : State) (m : Memory 8), s.params.edge.toInt ≤ 0 →
    (frame fse { s with ym := m }).cb = (frame fse s).cb ∧ (frame fse { s with ym := m }).cr = (frame fse s).cr ∧
    (frame fse { s with ym := m }).rngCtr = (frame fse s).rngCtr

/-- The 2×2 luma block of a chroma pixel, and every address the engine forms is inside its plane (R53). Of the engine, at
every configuration, on an instance: a frame does not depend on luma bytes at or above WIDTH · HEIGHT nor on chroma bytes at
or above CW · CH, whatever stands there, and leaves every byte out there as it is; a column step of the traversal likewise
writes only inside its plane. Of the addresses: the largest luma column and row read, and the chroma pixels of a row
pair. -/
def Obligations.EngineAddressesAreInRange : Prop :=
  (∀ (s : State) (cy cx : Nat), lumaBlock s (2 * cy) (2 * cx) =
    (s.lumaAt (2 * cy) (2 * cx)).toNat + (s.lumaAt (2 * cy) (2 * cx + 1)).toNat +
      (s.lumaAt (2 * cy + 1) (2 * cx)).toNat + (s.lumaAt (2 * cy + 1) (2 * cx + 1)).toNat) ∧
  ∀ s : State, s.DimsOk → s.instValid = true →
    s.width.toNat = 2 * s.cw.toNat ∧ s.height.toNat = 2 * s.ch.toNat ∧
    (2 ≤ s.cw.toNat → 2 * (s.cw.toNat - 2) + 3 = s.width.toNat - 1) ∧
    (2 ≤ s.ch.toNat → 2 * (s.ch.toNat - 2) + 1 = s.height.toNat - 3) ∧
    (∀ cy cx dy dx : Nat, cy + 1 < s.ch.toNat → cx + 1 < s.cw.toNat → dy ≤ 1 → dx ≤ 3 →
      s.pixelAddr .luma (2 * cy + dy) (2 * cx + dx) < s.width.toNat * s.height.toNat) ∧
    (∀ (pl : Chroma) (cy cx dy : Nat), cy + 1 < s.ch.toNat → cx < s.cw.toNat → dy ≤ 1 →
      s.pixelAddr (.chroma pl) (cy + dy) cx < s.cw.toNat * s.ch.toNat) ∧
    (∀ (c : Config) (m : Memory 8), s.AgreeOnLuma { s with ym := m } →
      (frame c { s with ym := m }).cb = (frame c s).cb ∧ (frame c { s with ym := m }).cr = (frame c s).cr ∧
      (frame c { s with ym := m }).rngCtr = (frame c s).rngCtr) ∧
    (∀ (c : Config) (b r : Memory 8), s.AgreeOnChroma { s with cb := b, cr := r } →
      (frame c s).AgreeOnChroma (frame c { s with cb := b, cr := r }) ∧
      (frame c { s with cb := b, cr := r }).rngCtr = (frame c s).rngCtr) ∧
    (∀ (c : Config) (q : Chroma) (a : Nat), s.cw.toNat * s.ch.toNat ≤ a →
      (frame c s).readPlane (.chroma q) a = s.readPlane (.chroma q) a) ∧
    (∀ (c : Config) (pl q : Chroma) (cy cx a : Nat), cy + 1 < s.ch.toNat → cx < s.cw.toNat →
      s.cw.toNat * s.ch.toNat ≤ a → (column c pl cy cx s).readPlane (.chroma q) a = s.readPlane (.chroma q) a)

/-! ### The invariant (spec/10_state.md R42) -/

/-- The invariant holds after reset. -/
def Obligations.InvHoldsAtReset : Prop := State.reset.Inv

/-- Every step keeps the invariant, from every state that has it. -/
def Obligations.StepKeepsInv : Prop := ∀ s t : State, s.Inv → step s = .next t → t.Inv

/-- In every reachable state, whatever the host delivers, the five clauses of R42 hold. Reachable is the model's: runs from
reset over any list of packets and reset events at the command port (log entries 1, 6 and 12). -/
def Obligations.ReachableStatesKeepTheRules : Prop :=
  ∀ s : State, Reachable s →
    (s.instValid = true → s.nfReady = true) ∧
    (s.fatal = true → s.nfReady = false ∧ s.instValid = false) ∧
    (s.instValid = true →
      s.width.toNat % 2 = 0 ∧ 2 ≤ s.width.toNat ∧ s.width.toNat ≤ 4096 ∧
      s.height.toNat % 2 = 0 ∧ 2 ≤ s.height.toNat ∧ s.height.toNat ≤ 4096 ∧
      s.cw.toNat = s.width.toNat / 2 ∧ 1 ≤ s.cw.toNat ∧ s.ch.toNat = s.height.toNat / 2 ∧ 1 ≤ s.ch.toNat) ∧
    (s.instValid = false →
      s.width = 0 ∧ s.height = 0 ∧ s.cw = 0 ∧ s.ch = 0 ∧ s.params = ⟨0, 0, 0, 0⟩ ∧ s.rngCtr = 0 ∧ s.rngKey = 0) ∧
    (s.nfReady = true → ∀ i < 4096, s.lattice i = fmix32 (BitVec.ofNat 32 (i + 1) ^^^ 0x7F4A7C15))
end

