-- ==== Sys2Proof/Laws/Memory.lean ====
section
/-! SUPPORT. The laws of the sparse memories: read after write, and the canonical form. -/

namespace Sys2Proof.Laws

open Sys2Proof Sys2Proof.Machine

variable {w : Nat}

@[simp] theorem read_nil (a : Nat) : Memory.read ([] : Memory w) a = none := rfl

/-- A read after a write at the same address answers what was written. -/
@[simp] theorem read_write_same (m : Memory w) (a : Nat) (v : BitVec w) :
    Memory.read (Memory.write m a v) a = some v := by
  induction m with
  | nil => simp [Memory.write, Memory.read]
  | cons e m ih =>
    obtain ⟨b, u⟩ := e
    simp only [Memory.write]
    split
    · simp [Memory.read]
    · split
      · simp [Memory.read]
      · simp [Memory.read, *]

/-- A write leaves every other address alone. -/
theorem read_write_other (m : Memory w) {a b : Nat} (v : BitVec w) (h : b ≠ a) :
    Memory.read (Memory.write m a v) b = Memory.read m b := by
  induction m with
  | nil => simp [Memory.write, Memory.read, h]
  | cons e m ih =>
    obtain ⟨d, u⟩ := e
    simp only [Memory.write]
    split
    · simp [Memory.read, h]
    · split
      · subst_vars; simp [Memory.read, h]
      · simp only [Memory.read, ih]

/-- What a read answers after a write. -/
theorem read_write (m : Memory w) (a b : Nat) (v : BitVec w) :
    Memory.read (Memory.write m a v) b = if b = a then some v else Memory.read m b := by
  split
  · subst_vars; simp
  · exact read_write_other m v ‹_›

/-- The entries after a write: the written one and entries from before. -/
theorem mem_write {m : Memory w} {a : Nat} {v : BitVec w} {e : Nat × BitVec w}
    (h : e ∈ Memory.write m a v) : e = (a, v) ∨ e ∈ m := by
  induction m with
  | nil => simp only [Memory.write, List.mem_singleton] at h; exact .inl h
  | cons f m ih =>
    simp only [Memory.write] at h
    split at h
    · simpa using h
    · split at h
      · rcases List.mem_cons.1 h with h | h
        · exact .inl h
        · exact .inr (List.mem_cons_of_mem _ h)
      · rcases List.mem_cons.1 h with h | h
        · exact .inr (h ▸ List.mem_cons_self)
        · exact (ih h).imp_right (List.mem_cons_of_mem _)

/-- Every memory operation keeps the canonical form: the one that writes does. -/
theorem write_wf {m : Memory w} (h : m.wf) (a : Nat) (v : BitVec w) : (Memory.write m a v).wf := by
  induction m with
  | nil => simp [Memory.wf, Memory.write]
  | cons e m ih =>
    obtain ⟨b, u⟩ := e
    have hb := List.pairwise_cons.1 h
    simp only [Memory.write]
    split
    · refine List.pairwise_cons.2 ⟨fun f hf => ?_, h⟩
      rcases List.mem_cons.1 hf with rfl | hf
      · assumption
      · exact Nat.lt_trans ‹a < b› (hb.1 f hf)
    · split
      · subst_vars; exact List.pairwise_cons.2 ⟨hb.1, hb.2⟩
      · refine List.pairwise_cons.2 ⟨fun f hf => ?_, ih hb.2⟩
        rcases mem_write hf with rfl | hf
        · show b < a
          omega
        · exact hb.1 f hf

/-- The addresses listed after a write stay below a bound that holds of the address written. -/
theorem write_below {m : Memory w} {n a : Nat} {v : BitVec w} (h : ∀ e ∈ m, e.1 < n) (ha : a < n) :
    ∀ e ∈ Memory.write m a v, e.1 < n := fun e he =>
  (mem_write he).elim (fun hh => hh ▸ ha) (h e)

/-- In canonical form an entry is what its address reads as. -/
theorem read_of_mem {m : Memory w} (h : m.wf) {a : Nat} {v : BitVec w} (hm : (a, v) ∈ m) :
    Memory.read m a = some v := by
  induction m with
  | nil => cases hm
  | cons e m ih =>
    obtain ⟨b, u⟩ := e
    have hb := List.pairwise_cons.1 h
    rcases List.mem_cons.1 hm with hm | hm
    · cases hm; simp [Memory.read]
    · have : b < a := hb.1 _ hm
      simp only [Memory.read, if_neg (Nat.ne_of_gt this)]
      exact ih hb.2 hm

/-- An address that reads as a value is listed with it. -/
theorem mem_of_read {m : Memory w} {a : Nat} {v : BitVec w} (h : Memory.read m a = some v) : (a, v) ∈ m := by
  induction m with
  | nil => cases h
  | cons e m ih =>
    obtain ⟨b, u⟩ := e
    simp only [Memory.read] at h
    split at h
    · cases h; subst_vars; exact List.mem_cons_self
    · exact List.mem_cons_of_mem _ (ih h)

/-- Two memories in canonical form that read the same at every address are the same data. -/
theorem ext_of_read {m n : Memory w} (hm : m.wf) (hn : n.wf) (h : ∀ a, Memory.read m a = Memory.read n a) :
    m = n := by
  have sorted {m : Memory w} (hm : m.wf) : m.Pairwise (fun e f => (Nat.lt ·.1 ·.1) e f) := hm
  refine List.Perm.eq_of_pairwise (le := fun e f => e.1 < f.1) ?_ (sorted hm) (sorted hn) ?_
  · intro a b _ _ hab hba
    exact absurd hab (Nat.lt_asymm hba)
  · refine (List.perm_ext_iff_of_nodup ?_ ?_).2 fun e => ?_
    · exact hm.imp fun h heq => by simp [heq] at h
    · exact hn.imp fun h heq => by simp [heq] at h
    · obtain ⟨a, v⟩ := e
      constructor
      · intro he; exact mem_of_read ((h a).symm.trans (read_of_mem hm he))
      · intro he; exact mem_of_read ((h a).trans (read_of_mem hn he))

end Sys2Proof.Laws
end

