-- ==== Sys2Proof/Laws/State.lean ====
section
/-! SUPPORT. What each named update of the state does to each field, and what the accessors read after it. -/

namespace Sys2Proof.Laws

open Sys2Proof Sys2Proof.Machine

variable (s : State)

/-! ### `respond` -/

@[simp] theorem respond_nfReady (st : Status) (v : Word) : (s.respond st v).nfReady = s.nfReady := rfl
@[simp] theorem respond_instValid (st : Status) (v : Word) : (s.respond st v).instValid = s.instValid := rfl
@[simp] theorem respond_fatal (st : Status) (v : Word) : (s.respond st v).fatal = s.fatal := rfl
@[simp] theorem respond_lastErr (st : Status) (v : Word) : (s.respond st v).lastErr = s.lastErr := rfl
@[simp] theorem respond_width (st : Status) (v : Word) : (s.respond st v).width = s.width := rfl
@[simp] theorem respond_height (st : Status) (v : Word) : (s.respond st v).height = s.height := rfl
@[simp] theorem respond_cw (st : Status) (v : Word) : (s.respond st v).cw = s.cw := rfl
@[simp] theorem respond_ch (st : Status) (v : Word) : (s.respond st v).ch = s.ch := rfl
@[simp] theorem respond_params (st : Status) (v : Word) : (s.respond st v).params = s.params := rfl
@[simp] theorem respond_rngCtr (st : Status) (v : Word) : (s.respond st v).rngCtr = s.rngCtr := rfl
@[simp] theorem respond_rngKey (st : Status) (v : Word) : (s.respond st v).rngKey = s.rngKey := rfl
@[simp] theorem respond_nf (st : Status) (v : Word) : (s.respond st v).nf = s.nf := rfl
@[simp] theorem respond_ym (st : Status) (v : Word) : (s.respond st v).ym = s.ym := rfl
@[simp] theorem respond_cb (st : Status) (v : Word) : (s.respond st v).cb = s.cb := rfl
@[simp] theorem respond_cr (st : Status) (v : Word) : (s.respond st v).cr = s.cr := rfl
@[simp] theorem respond_fire (st : Status) (v : Word) : (s.respond st v).fire = s.fire := rfl
@[simp] theorem respond_fireStep (st : Status) (v : Word) : (s.respond st v).fireStep = s.fireStep := rfl
@[simp] theorem respond_ign (st : Status) (v : Word) : (s.respond st v).ign = s.ign := rfl
@[simp] theorem respond_phase (st : Status) (v : Word) : (s.respond st v).phase = s.phase := rfl
@[simp] theorem respond_cy (st : Status) (v : Word) : (s.respond st v).cy = s.cy := rfl
@[simp] theorem respond_pl (st : Status) (v : Word) : (s.respond st v).pl = s.pl := rfl
@[simp] theorem respond_cx (st : Status) (v : Word) : (s.respond st v).cx = s.cx := rfl
@[simp] theorem respond_epoch (st : Status) (v : Word) : (s.respond st v).epoch = s.epoch := rfl
@[simp] theorem respond_nfMemOk (st : Status) (v : Word) : (s.respond st v).nfMemOk = s.nfMemOk := rfl
@[simp] theorem respond_inbox (st : Status) (v : Word) : (s.respond st v).inbox = s.inbox := rfl
@[simp] theorem respond_outbox (st : Status) (v : Word) : (s.respond st v).outbox = ⟨st.code.setWidth 32, v⟩ :: s.outbox := rfl

/-! ### `withEnv` -/

@[simp] theorem withEnv_nfReady (b : Bool) : (s.withEnv b).nfReady = s.nfReady := rfl
@[simp] theorem withEnv_instValid (b : Bool) : (s.withEnv b).instValid = s.instValid := rfl
@[simp] theorem withEnv_fatal (b : Bool) : (s.withEnv b).fatal = s.fatal := rfl
@[simp] theorem withEnv_lastErr (b : Bool) : (s.withEnv b).lastErr = s.lastErr := rfl
@[simp] theorem withEnv_width (b : Bool) : (s.withEnv b).width = s.width := rfl
@[simp] theorem withEnv_height (b : Bool) : (s.withEnv b).height = s.height := rfl
@[simp] theorem withEnv_cw (b : Bool) : (s.withEnv b).cw = s.cw := rfl
@[simp] theorem withEnv_ch (b : Bool) : (s.withEnv b).ch = s.ch := rfl
@[simp] theorem withEnv_params (b : Bool) : (s.withEnv b).params = s.params := rfl
@[simp] theorem withEnv_rngCtr (b : Bool) : (s.withEnv b).rngCtr = s.rngCtr := rfl
@[simp] theorem withEnv_rngKey (b : Bool) : (s.withEnv b).rngKey = s.rngKey := rfl
@[simp] theorem withEnv_nf (b : Bool) : (s.withEnv b).nf = s.nf := rfl
@[simp] theorem withEnv_ym (b : Bool) : (s.withEnv b).ym = s.ym := rfl
@[simp] theorem withEnv_cb (b : Bool) : (s.withEnv b).cb = s.cb := rfl
@[simp] theorem withEnv_cr (b : Bool) : (s.withEnv b).cr = s.cr := rfl
@[simp] theorem withEnv_fire (b : Bool) : (s.withEnv b).fire = s.fire := rfl
@[simp] theorem withEnv_fireStep (b : Bool) : (s.withEnv b).fireStep = s.fireStep := rfl
@[simp] theorem withEnv_ign (b : Bool) : (s.withEnv b).ign = s.ign := rfl
@[simp] theorem withEnv_phase (b : Bool) : (s.withEnv b).phase = s.phase := rfl
@[simp] theorem withEnv_cy (b : Bool) : (s.withEnv b).cy = s.cy := rfl
@[simp] theorem withEnv_pl (b : Bool) : (s.withEnv b).pl = s.pl := rfl
@[simp] theorem withEnv_cx (b : Bool) : (s.withEnv b).cx = s.cx := rfl
@[simp] theorem withEnv_epoch (b : Bool) : (s.withEnv b).epoch = s.epoch := rfl
@[simp] theorem withEnv_nfMemOk (b : Bool) : (s.withEnv b).nfMemOk = b := rfl
@[simp] theorem withEnv_inbox (b : Bool) : (s.withEnv b).inbox = s.inbox := rfl
@[simp] theorem withEnv_outbox (b : Bool) : (s.withEnv b).outbox = s.outbox := rfl

/-! ### `forgetPlanes` -/

@[simp] theorem forgetPlanes_nfReady : (s.forgetPlanes).nfReady = s.nfReady := rfl
@[simp] theorem forgetPlanes_instValid : (s.forgetPlanes).instValid = s.instValid := rfl
@[simp] theorem forgetPlanes_fatal : (s.forgetPlanes).fatal = s.fatal := rfl
@[simp] theorem forgetPlanes_lastErr : (s.forgetPlanes).lastErr = s.lastErr := rfl
@[simp] theorem forgetPlanes_width : (s.forgetPlanes).width = s.width := rfl
@[simp] theorem forgetPlanes_height : (s.forgetPlanes).height = s.height := rfl
@[simp] theorem forgetPlanes_cw : (s.forgetPlanes).cw = s.cw := rfl
@[simp] theorem forgetPlanes_ch : (s.forgetPlanes).ch = s.ch := rfl
@[simp] theorem forgetPlanes_params : (s.forgetPlanes).params = s.params := rfl
@[simp] theorem forgetPlanes_rngCtr : (s.forgetPlanes).rngCtr = s.rngCtr := rfl
@[simp] theorem forgetPlanes_rngKey : (s.forgetPlanes).rngKey = s.rngKey := rfl
@[simp] theorem forgetPlanes_nf : (s.forgetPlanes).nf = s.nf := rfl
@[simp] theorem forgetPlanes_ym : (s.forgetPlanes).ym = [] := rfl
@[simp] theorem forgetPlanes_cb : (s.forgetPlanes).cb = [] := rfl
@[simp] theorem forgetPlanes_cr : (s.forgetPlanes).cr = [] := rfl
@[simp] theorem forgetPlanes_fire : (s.forgetPlanes).fire = s.fire := rfl
@[simp] theorem forgetPlanes_fireStep : (s.forgetPlanes).fireStep = s.fireStep := rfl
@[simp] theorem forgetPlanes_ign : (s.forgetPlanes).ign = s.ign := rfl
@[simp] theorem forgetPlanes_phase : (s.forgetPlanes).phase = s.phase := rfl
@[simp] theorem forgetPlanes_cy : (s.forgetPlanes).cy = s.cy := rfl
@[simp] theorem forgetPlanes_pl : (s.forgetPlanes).pl = s.pl := rfl
@[simp] theorem forgetPlanes_cx : (s.forgetPlanes).cx = s.cx := rfl
@[simp] theorem forgetPlanes_epoch : (s.forgetPlanes).epoch = s.epoch + 1 := rfl
@[simp] theorem forgetPlanes_nfMemOk : (s.forgetPlanes).nfMemOk = s.nfMemOk := rfl
@[simp] theorem forgetPlanes_inbox : (s.forgetPlanes).inbox = s.inbox := rfl
@[simp] theorem forgetPlanes_outbox : (s.forgetPlanes).outbox = s.outbox := rfl

/-! ### `resetBlock` -/

@[simp] theorem resetBlock_nfReady : (s.resetBlock).nfReady = State.reset.nfReady := rfl
@[simp] theorem resetBlock_instValid : (s.resetBlock).instValid = State.reset.instValid := rfl
@[simp] theorem resetBlock_fatal : (s.resetBlock).fatal = State.reset.fatal := rfl
@[simp] theorem resetBlock_lastErr : (s.resetBlock).lastErr = State.reset.lastErr := rfl
@[simp] theorem resetBlock_width : (s.resetBlock).width = State.reset.width := rfl
@[simp] theorem resetBlock_height : (s.resetBlock).height = State.reset.height := rfl
@[simp] theorem resetBlock_cw : (s.resetBlock).cw = State.reset.cw := rfl
@[simp] theorem resetBlock_ch : (s.resetBlock).ch = State.reset.ch := rfl
@[simp] theorem resetBlock_params : (s.resetBlock).params = State.reset.params := rfl
@[simp] theorem resetBlock_rngCtr : (s.resetBlock).rngCtr = State.reset.rngCtr := rfl
@[simp] theorem resetBlock_rngKey : (s.resetBlock).rngKey = State.reset.rngKey := rfl
@[simp] theorem resetBlock_nf : (s.resetBlock).nf = State.reset.nf := rfl
@[simp] theorem resetBlock_ym : (s.resetBlock).ym = State.reset.ym := rfl
@[simp] theorem resetBlock_cb : (s.resetBlock).cb = State.reset.cb := rfl
@[simp] theorem resetBlock_cr : (s.resetBlock).cr = State.reset.cr := rfl
@[simp] theorem resetBlock_fire : (s.resetBlock).fire = State.reset.fire := rfl
@[simp] theorem resetBlock_fireStep : (s.resetBlock).fireStep = State.reset.fireStep := rfl
@[simp] theorem resetBlock_ign : (s.resetBlock).ign = State.reset.ign := rfl
@[simp] theorem resetBlock_phase : (s.resetBlock).phase = State.reset.phase := rfl
@[simp] theorem resetBlock_cy : (s.resetBlock).cy = State.reset.cy := rfl
@[simp] theorem resetBlock_pl : (s.resetBlock).pl = State.reset.pl := rfl
@[simp] theorem resetBlock_cx : (s.resetBlock).cx = State.reset.cx := rfl
@[simp] theorem resetBlock_epoch : (s.resetBlock).epoch = s.epoch + 1 := rfl
@[simp] theorem resetBlock_nfMemOk : (s.resetBlock).nfMemOk = s.nfMemOk := rfl
@[simp] theorem resetBlock_inbox : (s.resetBlock).inbox = s.inbox := rfl
@[simp] theorem resetBlock_outbox : (s.resetBlock).outbox = s.outbox := rfl

/-! ### `nfBuild` -/

@[simp] theorem nfBuild_nfReady (c : Config) : (nfBuild c s).nfReady = s.nfReady := rfl
@[simp] theorem nfBuild_instValid (c : Config) : (nfBuild c s).instValid = s.instValid := rfl
@[simp] theorem nfBuild_fatal (c : Config) : (nfBuild c s).fatal = s.fatal := rfl
@[simp] theorem nfBuild_lastErr (c : Config) : (nfBuild c s).lastErr = s.lastErr := rfl
@[simp] theorem nfBuild_width (c : Config) : (nfBuild c s).width = s.width := rfl
@[simp] theorem nfBuild_height (c : Config) : (nfBuild c s).height = s.height := rfl
@[simp] theorem nfBuild_cw (c : Config) : (nfBuild c s).cw = s.cw := rfl
@[simp] theorem nfBuild_ch (c : Config) : (nfBuild c s).ch = s.ch := rfl
@[simp] theorem nfBuild_params (c : Config) : (nfBuild c s).params = s.params := rfl
@[simp] theorem nfBuild_rngCtr (c : Config) : (nfBuild c s).rngCtr = s.rngCtr := rfl
@[simp] theorem nfBuild_rngKey (c : Config) : (nfBuild c s).rngKey = s.rngKey := rfl
@[simp] theorem nfBuild_nf (c : Config) : (nfBuild c s).nf = latticeTable c := rfl
@[simp] theorem nfBuild_ym (c : Config) : (nfBuild c s).ym = s.ym := rfl
@[simp] theorem nfBuild_cb (c : Config) : (nfBuild c s).cb = s.cb := rfl
@[simp] theorem nfBuild_cr (c : Config) : (nfBuild c s).cr = s.cr := rfl
@[simp] theorem nfBuild_fire (c : Config) : (nfBuild c s).fire = s.fire := rfl
@[simp] theorem nfBuild_fireStep (c : Config) : (nfBuild c s).fireStep = s.fireStep := rfl
@[simp] theorem nfBuild_ign (c : Config) : (nfBuild c s).ign = s.ign := rfl
@[simp] theorem nfBuild_phase (c : Config) : (nfBuild c s).phase = s.phase := rfl
@[simp] theorem nfBuild_cy (c : Config) : (nfBuild c s).cy = s.cy := rfl
@[simp] theorem nfBuild_pl (c : Config) : (nfBuild c s).pl = s.pl := rfl
@[simp] theorem nfBuild_cx (c : Config) : (nfBuild c s).cx = s.cx := rfl
@[simp] theorem nfBuild_epoch (c : Config) : (nfBuild c s).epoch = s.epoch := rfl
@[simp] theorem nfBuild_nfMemOk (c : Config) : (nfBuild c s).nfMemOk = s.nfMemOk := rfl
@[simp] theorem nfBuild_inbox (c : Config) : (nfBuild c s).inbox = s.inbox := rfl
@[simp] theorem nfBuild_outbox (c : Config) : (nfBuild c s).outbox = s.outbox := rfl

/-! ### `rngAdvance` -/

@[simp] theorem rngAdvance_nfReady : (rngAdvance s).nfReady = s.nfReady := rfl
@[simp] theorem rngAdvance_instValid : (rngAdvance s).instValid = s.instValid := rfl
@[simp] theorem rngAdvance_fatal : (rngAdvance s).fatal = s.fatal := rfl
@[simp] theorem rngAdvance_lastErr : (rngAdvance s).lastErr = s.lastErr := rfl
@[simp] theorem rngAdvance_width : (rngAdvance s).width = s.width := rfl
@[simp] theorem rngAdvance_height : (rngAdvance s).height = s.height := rfl
@[simp] theorem rngAdvance_cw : (rngAdvance s).cw = s.cw := rfl
@[simp] theorem rngAdvance_ch : (rngAdvance s).ch = s.ch := rfl
@[simp] theorem rngAdvance_params : (rngAdvance s).params = s.params := rfl
@[simp] theorem rngAdvance_rngCtr : (rngAdvance s).rngCtr = s.rngCtr + 1 := rfl
@[simp] theorem rngAdvance_rngKey : (rngAdvance s).rngKey = s.rngKey := rfl
@[simp] theorem rngAdvance_nf : (rngAdvance s).nf = s.nf := rfl
@[simp] theorem rngAdvance_ym : (rngAdvance s).ym = s.ym := rfl
@[simp] theorem rngAdvance_cb : (rngAdvance s).cb = s.cb := rfl
@[simp] theorem rngAdvance_cr : (rngAdvance s).cr = s.cr := rfl
@[simp] theorem rngAdvance_fire : (rngAdvance s).fire = s.fire := rfl
@[simp] theorem rngAdvance_fireStep : (rngAdvance s).fireStep = s.fireStep := rfl
@[simp] theorem rngAdvance_ign : (rngAdvance s).ign = s.ign := rfl
@[simp] theorem rngAdvance_phase : (rngAdvance s).phase = s.phase := rfl
@[simp] theorem rngAdvance_cy : (rngAdvance s).cy = s.cy := rfl
@[simp] theorem rngAdvance_pl : (rngAdvance s).pl = s.pl := rfl
@[simp] theorem rngAdvance_cx : (rngAdvance s).cx = s.cx := rfl
@[simp] theorem rngAdvance_epoch : (rngAdvance s).epoch = s.epoch := rfl
@[simp] theorem rngAdvance_nfMemOk : (rngAdvance s).nfMemOk = s.nfMemOk := rfl
@[simp] theorem rngAdvance_inbox : (rngAdvance s).inbox = s.inbox := rfl
@[simp] theorem rngAdvance_outbox : (rngAdvance s).outbox = s.outbox := rfl

/-! ### `rngSeed` -/

@[simp] theorem rngSeed_nfReady (c : Config) : (rngSeed c s).nfReady = s.nfReady := rfl
@[simp] theorem rngSeed_instValid (c : Config) : (rngSeed c s).instValid = s.instValid := rfl
@[simp] theorem rngSeed_fatal (c : Config) : (rngSeed c s).fatal = s.fatal := rfl
@[simp] theorem rngSeed_lastErr (c : Config) : (rngSeed c s).lastErr = s.lastErr := rfl
@[simp] theorem rngSeed_width (c : Config) : (rngSeed c s).width = s.width := rfl
@[simp] theorem rngSeed_height (c : Config) : (rngSeed c s).height = s.height := rfl
@[simp] theorem rngSeed_cw (c : Config) : (rngSeed c s).cw = s.cw := rfl
@[simp] theorem rngSeed_ch (c : Config) : (rngSeed c s).ch = s.ch := rfl
@[simp] theorem rngSeed_params (c : Config) : (rngSeed c s).params = s.params := rfl
@[simp] theorem rngSeed_rngCtr (c : Config) : (rngSeed c s).rngCtr = c.instCtr0 := rfl
@[simp] theorem rngSeed_rngKey (c : Config) : (rngSeed c s).rngKey = c.instKey := rfl
@[simp] theorem rngSeed_nf (c : Config) : (rngSeed c s).nf = s.nf := rfl
@[simp] theorem rngSeed_ym (c : Config) : (rngSeed c s).ym = s.ym := rfl
@[simp] theorem rngSeed_cb (c : Config) : (rngSeed c s).cb = s.cb := rfl
@[simp] theorem rngSeed_cr (c : Config) : (rngSeed c s).cr = s.cr := rfl
@[simp] theorem rngSeed_fire (c : Config) : (rngSeed c s).fire = s.fire := rfl
@[simp] theorem rngSeed_fireStep (c : Config) : (rngSeed c s).fireStep = s.fireStep := rfl
@[simp] theorem rngSeed_ign (c : Config) : (rngSeed c s).ign = s.ign := rfl
@[simp] theorem rngSeed_phase (c : Config) : (rngSeed c s).phase = s.phase := rfl
@[simp] theorem rngSeed_cy (c : Config) : (rngSeed c s).cy = s.cy := rfl
@[simp] theorem rngSeed_pl (c : Config) : (rngSeed c s).pl = s.pl := rfl
@[simp] theorem rngSeed_cx (c : Config) : (rngSeed c s).cx = s.cx := rfl
@[simp] theorem rngSeed_epoch (c : Config) : (rngSeed c s).epoch = s.epoch := rfl
@[simp] theorem rngSeed_nfMemOk (c : Config) : (rngSeed c s).nfMemOk = s.nfMemOk := rfl
@[simp] theorem rngSeed_inbox (c : Config) : (rngSeed c s).inbox = s.inbox := rfl
@[simp] theorem rngSeed_outbox (c : Config) : (rngSeed c s).outbox = s.outbox := rfl

/-! ### `setParam` -/

@[simp] theorem setParam_nfReady (p : Param) (v : Word) : (s.setParam p v).nfReady = s.nfReady := by cases p <;> rfl
@[simp] theorem setParam_instValid (p : Param) (v : Word) : (s.setParam p v).instValid = s.instValid := by cases p <;> rfl
@[simp] theorem setParam_fatal (p : Param) (v : Word) : (s.setParam p v).fatal = s.fatal := by cases p <;> rfl
@[simp] theorem setParam_lastErr (p : Param) (v : Word) : (s.setParam p v).lastErr = s.lastErr := by cases p <;> rfl
@[simp] theorem setParam_width (p : Param) (v : Word) : (s.setParam p v).width = s.width := by cases p <;> rfl
@[simp] theorem setParam_height (p : Param) (v : Word) : (s.setParam p v).height = s.height := by cases p <;> rfl
@[simp] theorem setParam_cw (p : Param) (v : Word) : (s.setParam p v).cw = s.cw := by cases p <;> rfl
@[simp] theorem setParam_ch (p : Param) (v : Word) : (s.setParam p v).ch = s.ch := by cases p <;> rfl
@[simp] theorem setParam_rngCtr (p : Param) (v : Word) : (s.setParam p v).rngCtr = s.rngCtr := by cases p <;> rfl
@[simp] theorem setParam_rngKey (p : Param) (v : Word) : (s.setParam p v).rngKey = s.rngKey := by cases p <;> rfl
@[simp] theorem setParam_nf (p : Param) (v : Word) : (s.setParam p v).nf = s.nf := by cases p <;> rfl
@[simp] theorem setParam_ym (p : Param) (v : Word) : (s.setParam p v).ym = s.ym := by cases p <;> rfl
@[simp] theorem setParam_cb (p : Param) (v : Word) : (s.setParam p v).cb = s.cb := by cases p <;> rfl
@[simp] theorem setParam_cr (p : Param) (v : Word) : (s.setParam p v).cr = s.cr := by cases p <;> rfl
@[simp] theorem setParam_fire (p : Param) (v : Word) : (s.setParam p v).fire = s.fire := by cases p <;> rfl
@[simp] theorem setParam_fireStep (p : Param) (v : Word) : (s.setParam p v).fireStep = s.fireStep := by cases p <;> rfl
@[simp] theorem setParam_ign (p : Param) (v : Word) : (s.setParam p v).ign = s.ign := by cases p <;> rfl
@[simp] theorem setParam_phase (p : Param) (v : Word) : (s.setParam p v).phase = s.phase := by cases p <;> rfl
@[simp] theorem setParam_cy (p : Param) (v : Word) : (s.setParam p v).cy = s.cy := by cases p <;> rfl
@[simp] theorem setParam_pl (p : Param) (v : Word) : (s.setParam p v).pl = s.pl := by cases p <;> rfl
@[simp] theorem setParam_cx (p : Param) (v : Word) : (s.setParam p v).cx = s.cx := by cases p <;> rfl
@[simp] theorem setParam_epoch (p : Param) (v : Word) : (s.setParam p v).epoch = s.epoch := by cases p <;> rfl
@[simp] theorem setParam_nfMemOk (p : Param) (v : Word) : (s.setParam p v).nfMemOk = s.nfMemOk := by cases p <;> rfl
@[simp] theorem setParam_inbox (p : Param) (v : Word) : (s.setParam p v).inbox = s.inbox := by cases p <;> rfl
@[simp] theorem setParam_outbox (p : Param) (v : Word) : (s.setParam p v).outbox = s.outbox := by cases p <;> rfl

/-! ### `writePlane` -/

@[simp] theorem writePlane_nfReady (p : Plane) (a : Nat) (v : Byte) : (s.writePlane p a v).nfReady = s.nfReady := by rcases p with _ | _ | _ <;> rfl
@[simp] theorem writePlane_instValid (p : Plane) (a : Nat) (v : Byte) : (s.writePlane p a v).instValid = s.instValid := by rcases p with _ | _ | _ <;> rfl
@[simp] theorem writePlane_fatal (p : Plane) (a : Nat) (v : Byte) : (s.writePlane p a v).fatal = s.fatal := by rcases p with _ | _ | _ <;> rfl
@[simp] theorem writePlane_lastErr (p : Plane) (a : Nat) (v : Byte) : (s.writePlane p a v).lastErr = s.lastErr := by rcases p with _ | _ | _ <;> rfl
@[simp] theorem writePlane_width (p : Plane) (a : Nat) (v : Byte) : (s.writePlane p a v).width = s.width := by rcases p with _ | _ | _ <;> rfl
@[simp] theorem writePlane_height (p : Plane) (a : Nat) (v : Byte) : (s.writePlane p a v).height = s.height := by rcases p with _ | _ | _ <;> rfl
@[simp] theorem writePlane_cw (p : Plane) (a : Nat) (v : Byte) : (s.writePlane p a v).cw = s.cw := by rcases p with _ | _ | _ <;> rfl
@[simp] theorem writePlane_ch (p : Plane) (a : Nat) (v : Byte) : (s.writePlane p a v).ch = s.ch := by rcases p with _ | _ | _ <;> rfl
@[simp] theorem writePlane_params (p : Plane) (a : Nat) (v : Byte) : (s.writePlane p a v).params = s.params := by rcases p with _ | _ | _ <;> rfl
@[simp] theorem writePlane_rngCtr (p : Plane) (a : Nat) (v : Byte) : (s.writePlane p a v).rngCtr = s.rngCtr := by rcases p with _ | _ | _ <;> rfl
@[simp] theorem writePlane_rngKey (p : Plane) (a : Nat) (v : Byte) : (s.writePlane p a v).rngKey = s.rngKey := by rcases p with _ | _ | _ <;> rfl
@[simp] theorem writePlane_nf (p : Plane) (a : Nat) (v : Byte) : (s.writePlane p a v).nf = s.nf := by rcases p with _ | _ | _ <;> rfl
@[simp] theorem writePlane_fire (p : Plane) (a : Nat) (v : Byte) : (s.writePlane p a v).fire = s.fire := by rcases p with _ | _ | _ <;> rfl
@[simp] theorem writePlane_fireStep (p : Plane) (a : Nat) (v : Byte) : (s.writePlane p a v).fireStep = s.fireStep := by rcases p with _ | _ | _ <;> rfl
@[simp] theorem writePlane_ign (p : Plane) (a : Nat) (v : Byte) : (s.writePlane p a v).ign = s.ign := by rcases p with _ | _ | _ <;> rfl
@[simp] theorem writePlane_phase (p : Plane) (a : Nat) (v : Byte) : (s.writePlane p a v).phase = s.phase := by rcases p with _ | _ | _ <;> rfl
@[simp] theorem writePlane_cy (p : Plane) (a : Nat) (v : Byte) : (s.writePlane p a v).cy = s.cy := by rcases p with _ | _ | _ <;> rfl
@[simp] theorem writePlane_pl (p : Plane) (a : Nat) (v : Byte) : (s.writePlane p a v).pl = s.pl := by rcases p with _ | _ | _ <;> rfl
@[simp] theorem writePlane_cx (p : Plane) (a : Nat) (v : Byte) : (s.writePlane p a v).cx = s.cx := by rcases p with _ | _ | _ <;> rfl
@[simp] theorem writePlane_epoch (p : Plane) (a : Nat) (v : Byte) : (s.writePlane p a v).epoch = s.epoch := by rcases p with _ | _ | _ <;> rfl
@[simp] theorem writePlane_nfMemOk (p : Plane) (a : Nat) (v : Byte) : (s.writePlane p a v).nfMemOk = s.nfMemOk := by rcases p with _ | _ | _ <;> rfl
@[simp] theorem writePlane_inbox (p : Plane) (a : Nat) (v : Byte) : (s.writePlane p a v).inbox = s.inbox := by rcases p with _ | _ | _ <;> rfl
@[simp] theorem writePlane_outbox (p : Plane) (a : Nat) (v : Byte) : (s.writePlane p a v).outbox = s.outbox := by rcases p with _ | _ | _ <;> rfl

/-! ### `setChroma` -/

@[simp] theorem setChroma_nfReady (pl : Chroma) (y x : Nat) (v : Byte) : (s.setChroma pl y x v).nfReady = s.nfReady := by cases pl <;> rfl
@[simp] theorem setChroma_instValid (pl : Chroma) (y x : Nat) (v : Byte) : (s.setChroma pl y x v).instValid = s.instValid := by cases pl <;> rfl
@[simp] theorem setChroma_fatal (pl : Chroma) (y x : Nat) (v : Byte) : (s.setChroma pl y x v).fatal = s.fatal := by cases pl <;> rfl
@[simp] theorem setChroma_lastErr (pl : Chroma) (y x : Nat) (v : Byte) : (s.setChroma pl y x v).lastErr = s.lastErr := by cases pl <;> rfl
@[simp] theorem setChroma_width (pl : Chroma) (y x : Nat) (v : Byte) : (s.setChroma pl y x v).width = s.width := by cases pl <;> rfl
@[simp] theorem setChroma_height (pl : Chroma) (y x : Nat) (v : Byte) : (s.setChroma pl y x v).height = s.height := by cases pl <;> rfl
@[simp] theorem setChroma_cw (pl : Chroma) (y x : Nat) (v : Byte) : (s.setChroma pl y x v).cw = s.cw := by cases pl <;> rfl
@[simp] theorem setChroma_ch (pl : Chroma) (y x : Nat) (v : Byte) : (s.setChroma pl y x v).ch = s.ch := by cases pl <;> rfl
@[simp] theorem setChroma_params (pl : Chroma) (y x : Nat) (v : Byte) : (s.setChroma pl y x v).params = s.params := by cases pl <;> rfl
@[simp] theorem setChroma_rngCtr (pl : Chroma) (y x : Nat) (v : Byte) : (s.setChroma pl y x v).rngCtr = s.rngCtr := by cases pl <;> rfl
@[simp] theorem setChroma_rngKey (pl : Chroma) (y x : Nat) (v : Byte) : (s.setChroma pl y x v).rngKey = s.rngKey := by cases pl <;> rfl
@[simp] theorem setChroma_nf (pl : Chroma) (y x : Nat) (v : Byte) : (s.setChroma pl y x v).nf = s.nf := by cases pl <;> rfl
@[simp] theorem setChroma_ym (pl : Chroma) (y x : Nat) (v : Byte) : (s.setChroma pl y x v).ym = s.ym := by cases pl <;> rfl
@[simp] theorem setChroma_fire (pl : Chroma) (y x : Nat) (v : Byte) : (s.setChroma pl y x v).fire = s.fire := by cases pl <;> rfl
@[simp] theorem setChroma_fireStep (pl : Chroma) (y x : Nat) (v : Byte) : (s.setChroma pl y x v).fireStep = s.fireStep := by cases pl <;> rfl
@[simp] theorem setChroma_ign (pl : Chroma) (y x : Nat) (v : Byte) : (s.setChroma pl y x v).ign = s.ign := by cases pl <;> rfl
@[simp] theorem setChroma_phase (pl : Chroma) (y x : Nat) (v : Byte) : (s.setChroma pl y x v).phase = s.phase := by cases pl <;> rfl
@[simp] theorem setChroma_cy (pl : Chroma) (y x : Nat) (v : Byte) : (s.setChroma pl y x v).cy = s.cy := by cases pl <;> rfl
@[simp] theorem setChroma_pl (pl : Chroma) (y x : Nat) (v : Byte) : (s.setChroma pl y x v).pl = s.pl := by cases pl <;> rfl
@[simp] theorem setChroma_cx (pl : Chroma) (y x : Nat) (v : Byte) : (s.setChroma pl y x v).cx = s.cx := by cases pl <;> rfl
@[simp] theorem setChroma_epoch (pl : Chroma) (y x : Nat) (v : Byte) : (s.setChroma pl y x v).epoch = s.epoch := by cases pl <;> rfl
@[simp] theorem setChroma_nfMemOk (pl : Chroma) (y x : Nat) (v : Byte) : (s.setChroma pl y x v).nfMemOk = s.nfMemOk := by cases pl <;> rfl
@[simp] theorem setChroma_inbox (pl : Chroma) (y x : Nat) (v : Byte) : (s.setChroma pl y x v).inbox = s.inbox := by cases pl <;> rfl
@[simp] theorem setChroma_outbox (pl : Chroma) (y x : Nat) (v : Byte) : (s.setChroma pl y x v).outbox = s.outbox := by cases pl <;> rfl

/-! ### `pixAddSat` -/

@[simp] theorem pixAddSat_nfReady (pl : Chroma) (y x : Nat) (d : Int) : (pixAddSat pl y x d s).nfReady = s.nfReady := by simp [pixAddSat]
@[simp] theorem pixAddSat_instValid (pl : Chroma) (y x : Nat) (d : Int) : (pixAddSat pl y x d s).instValid = s.instValid := by simp [pixAddSat]
@[simp] theorem pixAddSat_fatal (pl : Chroma) (y x : Nat) (d : Int) : (pixAddSat pl y x d s).fatal = s.fatal := by simp [pixAddSat]
@[simp] theorem pixAddSat_lastErr (pl : Chroma) (y x : Nat) (d : Int) : (pixAddSat pl y x d s).lastErr = s.lastErr := by simp [pixAddSat]
@[simp] theorem pixAddSat_width (pl : Chroma) (y x : Nat) (d : Int) : (pixAddSat pl y x d s).width = s.width := by simp [pixAddSat]
@[simp] theorem pixAddSat_height (pl : Chroma) (y x : Nat) (d : Int) : (pixAddSat pl y x d s).height = s.height := by simp [pixAddSat]
@[simp] theorem pixAddSat_cw (pl : Chroma) (y x : Nat) (d : Int) : (pixAddSat pl y x d s).cw = s.cw := by simp [pixAddSat]
@[simp] theorem pixAddSat_ch (pl : Chroma) (y x : Nat) (d : Int) : (pixAddSat pl y x d s).ch = s.ch := by simp [pixAddSat]
@[simp] theorem pixAddSat_params (pl : Chroma) (y x : Nat) (d : Int) : (pixAddSat pl y x d s).params = s.params := by simp [pixAddSat]
@[simp] theorem pixAddSat_rngCtr (pl : Chroma) (y x : Nat) (d : Int) : (pixAddSat pl y x d s).rngCtr = s.rngCtr := by simp [pixAddSat]
@[simp] theorem pixAddSat_rngKey (pl : Chroma) (y x : Nat) (d : Int) : (pixAddSat pl y x d s).rngKey = s.rngKey := by simp [pixAddSat]
@[simp] theorem pixAddSat_nf (pl : Chroma) (y x : Nat) (d : Int) : (pixAddSat pl y x d s).nf = s.nf := by simp [pixAddSat]
@[simp] theorem pixAddSat_ym (pl : Chroma) (y x : Nat) (d : Int) : (pixAddSat pl y x d s).ym = s.ym := by simp [pixAddSat]
@[simp] theorem pixAddSat_fire (pl : Chroma) (y x : Nat) (d : Int) : (pixAddSat pl y x d s).fire = s.fire := by simp [pixAddSat]
@[simp] theorem pixAddSat_fireStep (pl : Chroma) (y x : Nat) (d : Int) : (pixAddSat pl y x d s).fireStep = s.fireStep := by simp [pixAddSat]
@[simp] theorem pixAddSat_ign (pl : Chroma) (y x : Nat) (d : Int) : (pixAddSat pl y x d s).ign = s.ign := by simp [pixAddSat]
@[simp] theorem pixAddSat_phase (pl : Chroma) (y x : Nat) (d : Int) : (pixAddSat pl y x d s).phase = s.phase := by simp [pixAddSat]
@[simp] theorem pixAddSat_cy (pl : Chroma) (y x : Nat) (d : Int) : (pixAddSat pl y x d s).cy = s.cy := by simp [pixAddSat]
@[simp] theorem pixAddSat_pl (pl : Chroma) (y x : Nat) (d : Int) : (pixAddSat pl y x d s).pl = s.pl := by simp [pixAddSat]
@[simp] theorem pixAddSat_cx (pl : Chroma) (y x : Nat) (d : Int) : (pixAddSat pl y x d s).cx = s.cx := by simp [pixAddSat]
@[simp] theorem pixAddSat_epoch (pl : Chroma) (y x : Nat) (d : Int) : (pixAddSat pl y x d s).epoch = s.epoch := by simp [pixAddSat]
@[simp] theorem pixAddSat_nfMemOk (pl : Chroma) (y x : Nat) (d : Int) : (pixAddSat pl y x d s).nfMemOk = s.nfMemOk := by simp [pixAddSat]
@[simp] theorem pixAddSat_inbox (pl : Chroma) (y x : Nat) (d : Int) : (pixAddSat pl y x d s).inbox = s.inbox := by simp [pixAddSat]
@[simp] theorem pixAddSat_outbox (pl : Chroma) (y x : Nat) (d : Int) : (pixAddSat pl y x d s).outbox = s.outbox := by simp [pixAddSat]

/-! ### `pixAdd2` -/

@[simp] theorem pixAdd2_nfReady (pl : Chroma) (y x : Nat) (d : Int) : (pixAdd2 pl y x d s).nfReady = s.nfReady := by simp [pixAdd2]
@[simp] theorem pixAdd2_instValid (pl : Chroma) (y x : Nat) (d : Int) : (pixAdd2 pl y x d s).instValid = s.instValid := by simp [pixAdd2]
@[simp] theorem pixAdd2_fatal (pl : Chroma) (y x : Nat) (d : Int) : (pixAdd2 pl y x d s).fatal = s.fatal := by simp [pixAdd2]
@[simp] theorem pixAdd2_lastErr (pl : Chroma) (y x : Nat) (d : Int) : (pixAdd2 pl y x d s).lastErr = s.lastErr := by simp [pixAdd2]
@[simp] theorem pixAdd2_width (pl : Chroma) (y x : Nat) (d : Int) : (pixAdd2 pl y x d s).width = s.width := by simp [pixAdd2]
@[simp] theorem pixAdd2_height (pl : Chroma) (y x : Nat) (d : Int) : (pixAdd2 pl y x d s).height = s.height := by simp [pixAdd2]
@[simp] theorem pixAdd2_cw (pl : Chroma) (y x : Nat) (d : Int) : (pixAdd2 pl y x d s).cw = s.cw := by simp [pixAdd2]
@[simp] theorem pixAdd2_ch (pl : Chroma) (y x : Nat) (d : Int) : (pixAdd2 pl y x d s).ch = s.ch := by simp [pixAdd2]
@[simp] theorem pixAdd2_params (pl : Chroma) (y x : Nat) (d : Int) : (pixAdd2 pl y x d s).params = s.params := by simp [pixAdd2]
@[simp] theorem pixAdd2_rngCtr (pl : Chroma) (y x : Nat) (d : Int) : (pixAdd2 pl y x d s).rngCtr = s.rngCtr := by simp [pixAdd2]
@[simp] theorem pixAdd2_rngKey (pl : Chroma) (y x : Nat) (d : Int) : (pixAdd2 pl y x d s).rngKey = s.rngKey := by simp [pixAdd2]
@[simp] theorem pixAdd2_nf (pl : Chroma) (y x : Nat) (d : Int) : (pixAdd2 pl y x d s).nf = s.nf := by simp [pixAdd2]
@[simp] theorem pixAdd2_ym (pl : Chroma) (y x : Nat) (d : Int) : (pixAdd2 pl y x d s).ym = s.ym := by simp [pixAdd2]
@[simp] theorem pixAdd2_fire (pl : Chroma) (y x : Nat) (d : Int) : (pixAdd2 pl y x d s).fire = s.fire := by simp [pixAdd2]
@[simp] theorem pixAdd2_fireStep (pl : Chroma) (y x : Nat) (d : Int) : (pixAdd2 pl y x d s).fireStep = s.fireStep := by simp [pixAdd2]
@[simp] theorem pixAdd2_ign (pl : Chroma) (y x : Nat) (d : Int) : (pixAdd2 pl y x d s).ign = s.ign := by simp [pixAdd2]
@[simp] theorem pixAdd2_phase (pl : Chroma) (y x : Nat) (d : Int) : (pixAdd2 pl y x d s).phase = s.phase := by simp [pixAdd2]
@[simp] theorem pixAdd2_cy (pl : Chroma) (y x : Nat) (d : Int) : (pixAdd2 pl y x d s).cy = s.cy := by simp [pixAdd2]
@[simp] theorem pixAdd2_pl (pl : Chroma) (y x : Nat) (d : Int) : (pixAdd2 pl y x d s).pl = s.pl := by simp [pixAdd2]
@[simp] theorem pixAdd2_cx (pl : Chroma) (y x : Nat) (d : Int) : (pixAdd2 pl y x d s).cx = s.cx := by simp [pixAdd2]
@[simp] theorem pixAdd2_epoch (pl : Chroma) (y x : Nat) (d : Int) : (pixAdd2 pl y x d s).epoch = s.epoch := by simp [pixAdd2]
@[simp] theorem pixAdd2_nfMemOk (pl : Chroma) (y x : Nat) (d : Int) : (pixAdd2 pl y x d s).nfMemOk = s.nfMemOk := by simp [pixAdd2]
@[simp] theorem pixAdd2_inbox (pl : Chroma) (y x : Nat) (d : Int) : (pixAdd2 pl y x d s).inbox = s.inbox := by simp [pixAdd2]
@[simp] theorem pixAdd2_outbox (pl : Chroma) (y x : Nat) (d : Int) : (pixAdd2 pl y x d s).outbox = s.outbox := by simp [pixAdd2]

/-! ### `noiseInject` -/

@[simp] theorem noiseInject_nfReady (c : Config) (pl : Chroma) (y x : Nat) : (noiseInject c pl y x s).nfReady = s.nfReady := by unfold noiseInject; split <;> simp
@[simp] theorem noiseInject_instValid (c : Config) (pl : Chroma) (y x : Nat) : (noiseInject c pl y x s).instValid = s.instValid := by unfold noiseInject; split <;> simp
@[simp] theorem noiseInject_fatal (c : Config) (pl : Chroma) (y x : Nat) : (noiseInject c pl y x s).fatal = s.fatal := by unfold noiseInject; split <;> simp
@[simp] theorem noiseInject_lastErr (c : Config) (pl : Chroma) (y x : Nat) : (noiseInject c pl y x s).lastErr = s.lastErr := by unfold noiseInject; split <;> simp
@[simp] theorem noiseInject_width (c : Config) (pl : Chroma) (y x : Nat) : (noiseInject c pl y x s).width = s.width := by unfold noiseInject; split <;> simp
@[simp] theorem noiseInject_height (c : Config) (pl : Chroma) (y x : Nat) : (noiseInject c pl y x s).height = s.height := by unfold noiseInject; split <;> simp
@[simp] theorem noiseInject_cw (c : Config) (pl : Chroma) (y x : Nat) : (noiseInject c pl y x s).cw = s.cw := by unfold noiseInject; split <;> simp
@[simp] theorem noiseInject_ch (c : Config) (pl : Chroma) (y x : Nat) : (noiseInject c pl y x s).ch = s.ch := by unfold noiseInject; split <;> simp
@[simp] theorem noiseInject_params (c : Config) (pl : Chroma) (y x : Nat) : (noiseInject c pl y x s).params = s.params := by unfold noiseInject; split <;> simp
@[simp] theorem noiseInject_rngCtr (c : Config) (pl : Chroma) (y x : Nat) : (noiseInject c pl y x s).rngCtr = s.rngCtr := by unfold noiseInject; split <;> simp
@[simp] theorem noiseInject_rngKey (c : Config) (pl : Chroma) (y x : Nat) : (noiseInject c pl y x s).rngKey = s.rngKey := by unfold noiseInject; split <;> simp
@[simp] theorem noiseInject_nf (c : Config) (pl : Chroma) (y x : Nat) : (noiseInject c pl y x s).nf = s.nf := by unfold noiseInject; split <;> simp
@[simp] theorem noiseInject_ym (c : Config) (pl : Chroma) (y x : Nat) : (noiseInject c pl y x s).ym = s.ym := by unfold noiseInject; split <;> simp
@[simp] theorem noiseInject_fire (c : Config) (pl : Chroma) (y x : Nat) : (noiseInject c pl y x s).fire = s.fire := by unfold noiseInject; split <;> simp
@[simp] theorem noiseInject_fireStep (c : Config) (pl : Chroma) (y x : Nat) : (noiseInject c pl y x s).fireStep = s.fireStep := by unfold noiseInject; split <;> simp
@[simp] theorem noiseInject_ign (c : Config) (pl : Chroma) (y x : Nat) : (noiseInject c pl y x s).ign = s.ign := by unfold noiseInject; split <;> simp
@[simp] theorem noiseInject_phase (c : Config) (pl : Chroma) (y x : Nat) : (noiseInject c pl y x s).phase = s.phase := by unfold noiseInject; split <;> simp
@[simp] theorem noiseInject_cy (c : Config) (pl : Chroma) (y x : Nat) : (noiseInject c pl y x s).cy = s.cy := by unfold noiseInject; split <;> simp
@[simp] theorem noiseInject_pl (c : Config) (pl : Chroma) (y x : Nat) : (noiseInject c pl y x s).pl = s.pl := by unfold noiseInject; split <;> simp
@[simp] theorem noiseInject_cx (c : Config) (pl : Chroma) (y x : Nat) : (noiseInject c pl y x s).cx = s.cx := by unfold noiseInject; split <;> simp
@[simp] theorem noiseInject_epoch (c : Config) (pl : Chroma) (y x : Nat) : (noiseInject c pl y x s).epoch = s.epoch := by unfold noiseInject; split <;> simp
@[simp] theorem noiseInject_nfMemOk (c : Config) (pl : Chroma) (y x : Nat) : (noiseInject c pl y x s).nfMemOk = s.nfMemOk := by unfold noiseInject; split <;> simp
@[simp] theorem noiseInject_inbox (c : Config) (pl : Chroma) (y x : Nat) : (noiseInject c pl y x s).inbox = s.inbox := by unfold noiseInject; split <;> simp
@[simp] theorem noiseInject_outbox (c : Config) (pl : Chroma) (y x : Nat) : (noiseInject c pl y x s).outbox = s.outbox := by unfold noiseInject; split <;> simp

/-! ### `flareIgnite` -/

@[simp] theorem flareIgnite_nfReady (c : Config) (pl : Chroma) (y x : Nat) (ui : Word) : (flareIgnite c pl y x ui s).nfReady = s.nfReady := rfl
@[simp] theorem flareIgnite_instValid (c : Config) (pl : Chroma) (y x : Nat) (ui : Word) : (flareIgnite c pl y x ui s).instValid = s.instValid := rfl
@[simp] theorem flareIgnite_fatal (c : Config) (pl : Chroma) (y x : Nat) (ui : Word) : (flareIgnite c pl y x ui s).fatal = s.fatal := rfl
@[simp] theorem flareIgnite_lastErr (c : Config) (pl : Chroma) (y x : Nat) (ui : Word) : (flareIgnite c pl y x ui s).lastErr = s.lastErr := rfl
@[simp] theorem flareIgnite_width (c : Config) (pl : Chroma) (y x : Nat) (ui : Word) : (flareIgnite c pl y x ui s).width = s.width := rfl
@[simp] theorem flareIgnite_height (c : Config) (pl : Chroma) (y x : Nat) (ui : Word) : (flareIgnite c pl y x ui s).height = s.height := rfl
@[simp] theorem flareIgnite_cw (c : Config) (pl : Chroma) (y x : Nat) (ui : Word) : (flareIgnite c pl y x ui s).cw = s.cw := rfl
@[simp] theorem flareIgnite_ch (c : Config) (pl : Chroma) (y x : Nat) (ui : Word) : (flareIgnite c pl y x ui s).ch = s.ch := rfl
@[simp] theorem flareIgnite_params (c : Config) (pl : Chroma) (y x : Nat) (ui : Word) : (flareIgnite c pl y x ui s).params = s.params := rfl
@[simp] theorem flareIgnite_rngCtr (c : Config) (pl : Chroma) (y x : Nat) (ui : Word) : (flareIgnite c pl y x ui s).rngCtr = s.rngCtr := rfl
@[simp] theorem flareIgnite_rngKey (c : Config) (pl : Chroma) (y x : Nat) (ui : Word) : (flareIgnite c pl y x ui s).rngKey = s.rngKey := rfl
@[simp] theorem flareIgnite_nf (c : Config) (pl : Chroma) (y x : Nat) (ui : Word) : (flareIgnite c pl y x ui s).nf = s.nf := rfl
@[simp] theorem flareIgnite_ym (c : Config) (pl : Chroma) (y x : Nat) (ui : Word) : (flareIgnite c pl y x ui s).ym = s.ym := rfl
@[simp] theorem flareIgnite_cb (c : Config) (pl : Chroma) (y x : Nat) (ui : Word) : (flareIgnite c pl y x ui s).cb = s.cb := rfl
@[simp] theorem flareIgnite_cr (c : Config) (pl : Chroma) (y x : Nat) (ui : Word) : (flareIgnite c pl y x ui s).cr = s.cr := rfl
@[simp] theorem flareIgnite_phase (c : Config) (pl : Chroma) (y x : Nat) (ui : Word) : (flareIgnite c pl y x ui s).phase = s.phase := rfl
@[simp] theorem flareIgnite_cy (c : Config) (pl : Chroma) (y x : Nat) (ui : Word) : (flareIgnite c pl y x ui s).cy = s.cy := rfl
@[simp] theorem flareIgnite_pl (c : Config) (pl : Chroma) (y x : Nat) (ui : Word) : (flareIgnite c pl y x ui s).pl = s.pl := rfl
@[simp] theorem flareIgnite_cx (c : Config) (pl : Chroma) (y x : Nat) (ui : Word) : (flareIgnite c pl y x ui s).cx = s.cx := rfl
@[simp] theorem flareIgnite_epoch (c : Config) (pl : Chroma) (y x : Nat) (ui : Word) : (flareIgnite c pl y x ui s).epoch = s.epoch := rfl
@[simp] theorem flareIgnite_nfMemOk (c : Config) (pl : Chroma) (y x : Nat) (ui : Word) : (flareIgnite c pl y x ui s).nfMemOk = s.nfMemOk := rfl
@[simp] theorem flareIgnite_inbox (c : Config) (pl : Chroma) (y x : Nat) (ui : Word) : (flareIgnite c pl y x ui s).inbox = s.inbox := rfl
@[simp] theorem flareIgnite_outbox (c : Config) (pl : Chroma) (y x : Nat) (ui : Word) : (flareIgnite c pl y x ui s).outbox = s.outbox := rfl

/-! ### `flareCont` -/

@[simp] theorem flareCont_nfReady (c : Config) (pl : Chroma) (y x : Nat) : (flareCont c pl y x s).nfReady = s.nfReady := by unfold flareCont; split <;> simp
@[simp] theorem flareCont_instValid (c : Config) (pl : Chroma) (y x : Nat) : (flareCont c pl y x s).instValid = s.instValid := by unfold flareCont; split <;> simp
@[simp] theorem flareCont_fatal (c : Config) (pl : Chroma) (y x : Nat) : (flareCont c pl y x s).fatal = s.fatal := by unfold flareCont; split <;> simp
@[simp] theorem flareCont_lastErr (c : Config) (pl : Chroma) (y x : Nat) : (flareCont c pl y x s).lastErr = s.lastErr := by unfold flareCont; split <;> simp
@[simp] theorem flareCont_width (c : Config) (pl : Chroma) (y x : Nat) : (flareCont c pl y x s).width = s.width := by unfold flareCont; split <;> simp
@[simp] theorem flareCont_height (c : Config) (pl : Chroma) (y x : Nat) : (flareCont c pl y x s).height = s.height := by unfold flareCont; split <;> simp
@[simp] theorem flareCont_cw (c : Config) (pl : Chroma) (y x : Nat) : (flareCont c pl y x s).cw = s.cw := by unfold flareCont; split <;> simp
@[simp] theorem flareCont_ch (c : Config) (pl : Chroma) (y x : Nat) : (flareCont c pl y x s).ch = s.ch := by unfold flareCont; split <;> simp
@[simp] theorem flareCont_params (c : Config) (pl : Chroma) (y x : Nat) : (flareCont c pl y x s).params = s.params := by unfold flareCont; split <;> simp
@[simp] theorem flareCont_rngCtr (c : Config) (pl : Chroma) (y x : Nat) : (flareCont c pl y x s).rngCtr = s.rngCtr := by unfold flareCont; split <;> simp
@[simp] theorem flareCont_rngKey (c : Config) (pl : Chroma) (y x : Nat) : (flareCont c pl y x s).rngKey = s.rngKey := by unfold flareCont; split <;> simp
@[simp] theorem flareCont_nf (c : Config) (pl : Chroma) (y x : Nat) : (flareCont c pl y x s).nf = s.nf := by unfold flareCont; split <;> simp
@[simp] theorem flareCont_ym (c : Config) (pl : Chroma) (y x : Nat) : (flareCont c pl y x s).ym = s.ym := by unfold flareCont; split <;> simp
@[simp] theorem flareCont_fireStep (c : Config) (pl : Chroma) (y x : Nat) : (flareCont c pl y x s).fireStep = s.fireStep := by unfold flareCont; split <;> simp
@[simp] theorem flareCont_ign (c : Config) (pl : Chroma) (y x : Nat) : (flareCont c pl y x s).ign = s.ign := by unfold flareCont; split <;> simp
@[simp] theorem flareCont_phase (c : Config) (pl : Chroma) (y x : Nat) : (flareCont c pl y x s).phase = s.phase := by unfold flareCont; split <;> simp
@[simp] theorem flareCont_cy (c : Config) (pl : Chroma) (y x : Nat) : (flareCont c pl y x s).cy = s.cy := by unfold flareCont; split <;> simp
@[simp] theorem flareCont_pl (c : Config) (pl : Chroma) (y x : Nat) : (flareCont c pl y x s).pl = s.pl := by unfold flareCont; split <;> simp
@[simp] theorem flareCont_cx (c : Config) (pl : Chroma) (y x : Nat) : (flareCont c pl y x s).cx = s.cx := by unfold flareCont; split <;> simp
@[simp] theorem flareCont_epoch (c : Config) (pl : Chroma) (y x : Nat) : (flareCont c pl y x s).epoch = s.epoch := by unfold flareCont; split <;> simp
@[simp] theorem flareCont_nfMemOk (c : Config) (pl : Chroma) (y x : Nat) : (flareCont c pl y x s).nfMemOk = s.nfMemOk := by unfold flareCont; split <;> simp
@[simp] theorem flareCont_inbox (c : Config) (pl : Chroma) (y x : Nat) : (flareCont c pl y x s).inbox = s.inbox := by unfold flareCont; split <;> simp
@[simp] theorem flareCont_outbox (c : Config) (pl : Chroma) (y x : Nat) : (flareCont c pl y x s).outbox = s.outbox := by unfold flareCont; split <;> simp

/-! ### `passStart` -/

@[simp] theorem passStart_nfReady (c : Config) : (passStart c s).nfReady = s.nfReady := rfl
@[simp] theorem passStart_instValid (c : Config) : (passStart c s).instValid = s.instValid := rfl
@[simp] theorem passStart_fatal (c : Config) : (passStart c s).fatal = s.fatal := rfl
@[simp] theorem passStart_lastErr (c : Config) : (passStart c s).lastErr = s.lastErr := rfl
@[simp] theorem passStart_width (c : Config) : (passStart c s).width = s.width := rfl
@[simp] theorem passStart_height (c : Config) : (passStart c s).height = s.height := rfl
@[simp] theorem passStart_cw (c : Config) : (passStart c s).cw = s.cw := rfl
@[simp] theorem passStart_ch (c : Config) : (passStart c s).ch = s.ch := rfl
@[simp] theorem passStart_params (c : Config) : (passStart c s).params = s.params := rfl
@[simp] theorem passStart_rngCtr (c : Config) : (passStart c s).rngCtr = s.rngCtr + 1 := rfl
@[simp] theorem passStart_rngKey (c : Config) : (passStart c s).rngKey = s.rngKey := rfl
@[simp] theorem passStart_nf (c : Config) : (passStart c s).nf = s.nf := rfl
@[simp] theorem passStart_ym (c : Config) : (passStart c s).ym = s.ym := rfl
@[simp] theorem passStart_cb (c : Config) : (passStart c s).cb = s.cb := rfl
@[simp] theorem passStart_cr (c : Config) : (passStart c s).cr = s.cr := rfl
@[simp] theorem passStart_fire (c : Config) : (passStart c s).fire = 0 := rfl
@[simp] theorem passStart_fireStep (c : Config) : (passStart c s).fireStep = 0 := rfl
@[simp] theorem passStart_ign (c : Config) : (passStart c s).ign = 0 := rfl
@[simp] theorem passStart_phase (c : Config) : (passStart c s).phase = BitVec.ofNat 24 (boundedOf (rngRaw c s) c.phaseBound) := rfl
@[simp] theorem passStart_cy (c : Config) : (passStart c s).cy = s.cy := rfl
@[simp] theorem passStart_pl (c : Config) : (passStart c s).pl = s.pl := rfl
@[simp] theorem passStart_cx (c : Config) : (passStart c s).cx = s.cx := rfl
@[simp] theorem passStart_epoch (c : Config) : (passStart c s).epoch = s.epoch := rfl
@[simp] theorem passStart_nfMemOk (c : Config) : (passStart c s).nfMemOk = s.nfMemOk := rfl
@[simp] theorem passStart_inbox (c : Config) : (passStart c s).inbox = s.inbox := rfl
@[simp] theorem passStart_outbox (c : Config) : (passStart c s).outbox = s.outbox := rfl

/-! ### What the accessors read after an update -/

@[simp] theorem getParam_setParam_same (p : Param) (v : Word) : (s.setParam p v).getParam p = v := by
  cases p <;> rfl

theorem getParam_setParam_other {p q : Param} (v : Word) (h : q ≠ p) :
    (s.setParam p v).getParam q = s.getParam q := by
  cases p <;> cases q <;> first | rfl | exact absurd rfl h

/-- The contents of the planes after a write. -/
theorem memory_writePlane (p q : Plane) (a : Nat) (v : Byte) :
    (s.writePlane p a v).memory q = if q = p then Memory.write (s.memory p) a v else s.memory q := by
  rcases p with _ | _ | _ <;> rcases q with _ | _ | _ <;> rfl

/-- What a byte of a plane reads as after a write. -/
theorem readPlane_writePlane (p q : Plane) (a b : Nat) (v : Byte) :
    (s.writePlane p a v).readPlane q b = if q = p ∧ b = a then v else s.readPlane q b := by
  simp only [State.readPlane, memory_writePlane, writePlane_epoch]
  by_cases hq : q = p
  · subst hq
    by_cases hb : b = a
    · simp [hb]
    · simp [hb, read_write_other _ v hb]
  · simp [hq]

@[simp] theorem planeWidth_writePlane (p q : Plane) (a : Nat) (v : Byte) :
    (s.writePlane p a v).planeWidth q = s.planeWidth q := by cases q <;> simp [State.planeWidth]

@[simp] theorem planeHeight_writePlane (p q : Plane) (a : Nat) (v : Byte) :
    (s.writePlane p a v).planeHeight q = s.planeHeight q := by cases q <;> simp [State.planeHeight]

@[simp] theorem pixelAddr_chroma (pl : Chroma) (y x : Nat) :
    s.pixelAddr (.chroma pl) y x = y * s.cw.toNat + x := rfl

@[simp] theorem pixelAddr_luma (y x : Nat) : s.pixelAddr .luma y x = y * s.width.toNat + x := rfl

/-- Two states with the same planes and epoch read the same bytes. -/
theorem readPlane_congr {s t : State} (hy : t.ym = s.ym) (hb : t.cb = s.cb) (hr : t.cr = s.cr)
    (he : t.epoch = s.epoch) (p : Plane) (a : Nat) : t.readPlane p a = s.readPlane p a := by
  rcases p with _ | _ | _ <;> simp [State.readPlane, State.memory, hy, hb, hr, he]

/-- What a chroma write does to a byte of a plane. -/
theorem readPlane_setChroma (pl : Chroma) (y x : Nat) (v : Byte) (q : Plane) (b : Nat) :
    (s.setChroma pl y x v).readPlane q b =
      if q = .chroma pl ∧ b = y * s.cw.toNat + x then v else s.readPlane q b := by
  simp [State.setChroma, readPlane_writePlane]

end Sys2Proof.Laws
end

