-- ==== Sys2Proof/Laws/Admission.lean ====
section
/-! SUPPORT. What the admission checks, the error response and the completion can do, said once each. -/

namespace Sys2Proof.Laws

open Sys2Proof Sys2Proof.Machine

variable {s t : State} {k : Result}

/-- The error response always answers, and this is all it does (R265, R266). -/
theorem raise_eq (s : State) (st : Status) :
    raise s st = .next { s with lastErr := st.code, outbox := ⟨st.code.setWidth 32, 0⟩ :: s.outbox } := rfl

/-- A completion always answers, and this is all it does (R10, R266). -/
theorem complete_eq (s : State) (v : Word) : complete s v = .next { s with outbox := ⟨0, v⟩ :: s.outbox } := rfl

@[simp] theorem admitNotFatal_of_fatal (h : s.fatal = true) : admitNotFatal s k = raise s .errFatal := by
  simp [admitNotFatal, h]

@[simp] theorem admitNotFatal_ok (h : s.fatal = false) : admitNotFatal s k = k := by
  simp [admitNotFatal, h]

@[simp] theorem admitField_of_fatal (h : s.fatal = true) : admitField s k = raise s .errFatal := by
  simp [admitField, h]

theorem admitField_of_not_ready (hf : s.fatal = false) (h : s.nfReady = false) :
    admitField s k = raise s .errNotReady := by
  simp [admitField, hf, h]

theorem admitField_ok (hf : s.fatal = false) (h : s.nfReady = true) : admitField s k = k := by
  simp [admitField, hf, h]

@[simp] theorem admitInstance_of_fatal (h : s.fatal = true) : admitInstance s k = raise s .errFatal := by
  simp [admitInstance, h]

theorem admitInstance_of_no_instance (hf : s.fatal = false) (h : s.instValid = false) :
    admitInstance s k = raise s .errNoInstance := by
  simp [admitInstance, hf, h]

theorem admitInstance_ok (hf : s.fatal = false) (h : s.instValid = true) : admitInstance s k = k := by
  simp [admitInstance, hf, h]

/-- The three ways the checks of an instance command go. -/
theorem admitInstance_cases (s : State) (k : Result) :
    (s.fatal = true ∧ admitInstance s k = raise s .errFatal) ∨
    (s.fatal = false ∧ s.instValid = false ∧ admitInstance s k = raise s .errNoInstance) ∨
    (s.fatal = false ∧ s.instValid = true ∧ admitInstance s k = k) := by
  cases hf : s.fatal
  · cases hi : s.instValid
    · exact .inr (.inl ⟨rfl, rfl, admitInstance_of_no_instance hf hi⟩)
    · exact .inr (.inr ⟨rfl, rfl, admitInstance_ok hf hi⟩)
  · exact .inl ⟨rfl, admitInstance_of_fatal hf⟩

/-- The three ways the checks of a noise-field command go. -/
theorem admitField_cases (s : State) (k : Result) :
    (s.fatal = true ∧ admitField s k = raise s .errFatal) ∨
    (s.fatal = false ∧ s.nfReady = false ∧ admitField s k = raise s .errNotReady) ∨
    (s.fatal = false ∧ s.nfReady = true ∧ admitField s k = k) := by
  cases hf : s.fatal
  · cases hi : s.nfReady
    · exact .inr (.inl ⟨rfl, rfl, admitField_of_not_ready hf hi⟩)
    · exact .inr (.inr ⟨rfl, rfl, admitField_ok hf hi⟩)
  · exact .inl ⟨rfl, admitField_of_fatal hf⟩

/-- The three events a step can meet. -/
theorem takeEvent_cases (s : State) :
    (s.inbox = [] ∧ s.takeEvent = none) ∨
    (∃ e rest, s.inbox = e :: rest ∧ s.takeEvent = some (e, { s with inbox := rest })) := by
  cases h : s.inbox with
  | nil => exact .inl ⟨rfl, by simp [State.takeEvent, h]⟩
  | cons e rest => exact .inr ⟨e, rest, rfl, by simp [State.takeEvent, h]⟩

end Sys2Proof.Laws
end

