-- ==== Sys2Proof/Laws/Arith.lean ====
section
/-! SUPPORT. The laws of the arithmetic primitives and of the pure functions of the engine. -/

namespace Sys2Proof.Laws

open Sys2Proof Sys2Proof.Machine

/-- `truncz` is the library's division that truncates toward zero. -/
theorem truncz_eq_tdiv (a : Int) (b : Nat) : truncz a b = a.tdiv b := by
  unfold truncz
  split
  · rw [Int.tdiv_eq_ediv_of_nonneg ‹_›]
  · rw [← Int.neg_neg a, Int.neg_tdiv, Int.tdiv_eq_ediv_of_nonneg (by omega : 0 ≤ -a), Int.neg_neg]

/-- `clamp8` as a number: the sum brought into 0..255 (R10, R11). -/
theorem clamp8_toNat (v : Int) : ((clamp8 v).toNat : Int) = max 0 (min 255 v) := by
  unfold clamp8
  split
  · simp; omega
  · split
    · simp; omega
    · obtain ⟨n, rfl⟩ := Int.eq_ofNat_of_zero_le (by omega : 0 ≤ v)
      rw [show BitVec.ofInt 8 (n : Int) = BitVec.ofNat 8 n from rfl, BitVec.toNat_ofNat]
      omega

/-- `clamp8` of a byte plus nothing is the byte. -/
@[simp] theorem clamp8_self (b : Byte) : clamp8 (b.toNat : Int) = b := by
  apply BitVec.eq_of_toNat_eq
  have h := clamp8_toNat b.toNat
  have := b.isLt
  omega

/-- Masking is reduction modulo the lattice length, a power of two (R54). -/
theorem maskIndex_eq_mod (c : Config) (i : Nat) : maskIndex c i = i % c.noiseLen := by
  simp [maskIndex, Config.noiseLen, Nat.and_two_pow_sub_one_eq_mod]

/-- A masked index is in range (R54). -/
theorem maskIndex_lt (c : Config) (i : Nat) : maskIndex c i < c.noiseLen := by
  rw [maskIndex_eq_mod]
  exact Nat.mod_lt _ (Nat.two_pow_pos _)

/-- The absolute difference as a difference of naturals. -/
theorem absDiff_eq (a b : Nat) : absDiff a b = (a - b) + (b - a) := by
  unfold absDiff; omega

/-- The absolute difference of two bytes is at most 255 (R163). -/
theorem chromaDiff_le (s : State) (cy cx : Nat) : chromaDiff s cy cx ≤ 255 := by
  have h1 := (s.chromaAt .cb cy cx).isLt
  have h2 := (s.chromaAt .cr cy cx).isLt
  unfold chromaDiff
  rw [absDiff_eq]
  omega

/-- The jitter is never negative (R164). -/
theorem jitter_nonneg (c : Config) (uj : Word) : 0 ≤ jitter c uj := by
  unfold jitter; positivity

/-- A value in the range of a signed 10-bit register is stored whole. -/
theorem toInt_ofInt_fire {v : Int} (h : -512 ≤ v ∧ v < 512) : (BitVec.ofInt 10 v).toInt = v := by
  rw [BitVec.toInt_ofInt, Int.bmod_def]
  omega

/-- A natural number below 512 is stored whole in `FIRE`. -/
theorem toInt_ofNat_fire {n : Nat} (h : n < 512) : (BitVec.ofNat 10 n).toInt = n := by
  rw [show BitVec.ofNat 10 n = BitVec.ofInt 10 (n : Int) from rfl]
  exact toInt_ofInt_fire ⟨by omega, by omega⟩

/-- The configuration of R5's defaults meets its constraints. -/
theorem fse_valid : fse.Valid := by
  constructor <;> decide

/-- The defaults fit the register widths of R20. -/
theorem fse_fits : fse.FitsWidths := by
  constructor <;> decide

end Sys2Proof.Laws
end

