-- ==== Sys2Proof/Laws/Decode.lean ====
section
/-! SUPPORT. The fields of a command word, and the bytes of a word. -/

namespace Sys2Proof.Laws

open Sys2Proof

/-- The bits of a command word (R71). -/
theorem commandWord_bit (sel op : BitVec 8) (i : Nat) : (commandWord sel op).getLsbD i =
    if i < 8 then op.getLsbD i else if i - 8 < 8 then sel.getLsbD (i - 8) else false := by
  show BitVec.getLsbD (0#16 ++ sel ++ op : BitVec (16 + 8 + 8)) i = _
  rw [BitVec.getLsbD_append, BitVec.getLsbD_append]
  simp

@[simp] theorem commandWord_op (sel op : BitVec 8) : (commandWord sel op).extractLsb' 0 8 = op := by
  apply BitVec.eq_of_getLsbD_eq
  intro i hi
  simp [-BitVec.getLsbD_eq_getElem, commandWord_bit, hi]

@[simp] theorem commandWord_sel (sel op : BitVec 8) : (commandWord sel op).extractLsb' 8 8 = sel := by
  apply BitVec.eq_of_getLsbD_eq
  intro i hi
  simp [-BitVec.getLsbD_eq_getElem, commandWord_bit, hi]

@[simp] theorem commandWord_rsv (sel op : BitVec 8) : (commandWord sel op).extractLsb' 16 16 = 0 := by
  apply BitVec.eq_of_getLsbD_eq
  intro i hi
  simp only [BitVec.getLsbD_extractLsb', commandWord_bit, if_neg (show ¬ 16 + i < 8 by omega),
    if_neg (show ¬ 16 + i - 8 < 8 by omega)]
  simp

/-- A word is its three fields put together (R71). -/
theorem word_of_fields (w : Word) (h : w.extractLsb' 16 16 = 0) :
    w = commandWord (w.extractLsb' 8 8) (w.extractLsb' 0 8) := by
  apply BitVec.eq_of_getLsbD_eq
  intro i hi
  rw [commandWord_bit]
  split
  · simp [-BitVec.getLsbD_eq_getElem, *]
  · split
    · simp [-BitVec.getLsbD_eq_getElem, *, show 8 + (i - 8) = i by omega]
    · have := congrArg (fun b => b.getLsbD (i - 16)) h
      simpa [-BitVec.getLsbD_eq_getElem, show 16 + (i - 16) = i by omega, show i - 16 < 16 by omega] using this

/-- What the decoder of a packet's operation code can answer, for every format Z command. -/
theorem formatZ_ok {p : Packet} {i j : Instr} (h : formatZ p i = .ok j) : p.sel = 0 ∧ j = i := by
  unfold formatZ at h
  split at h
  · cases h; exact ⟨‹_›, rfl⟩
  · cases h

/-- The two ways the decoder goes. -/
theorem decode_ok {p : Packet} {i : Instr} (h : decode p = .ok i) : p.rsv = 0 ∧ decodeOp p = .ok i := by
  unfold decode at h
  split at h
  · exact ⟨‹_›, h⟩
  · cases h

/-- Four bytes of a word make the word again (R79). -/
@[simp] theorem wordOfBytes_wordBytes (w : Word) :
    wordOfBytes (w.extractLsb' 0 8) (w.extractLsb' 8 8) (w.extractLsb' 16 8) (w.extractLsb' 24 8) = w := by
  apply BitVec.eq_of_getLsbD_eq
  intro i hi
  show BitVec.getLsbD (w.extractLsb' 24 8 ++ w.extractLsb' 16 8 ++ w.extractLsb' 8 8 ++ w.extractLsb' 0 8 :
    BitVec (8 + 8 + 8 + 8)) i = _
  rw [BitVec.getLsbD_append, BitVec.getLsbD_append, BitVec.getLsbD_append]
  simp only [BitVec.getLsbD_extractLsb']
  by_cases h8 : i < 8
  · simp [h8]
  · by_cases h16 : i - 8 < 8
    · simp [-BitVec.getLsbD_eq_getElem, h8, h16, show 8 + (i - 8) = i by omega]
    · by_cases h24 : i - 8 - 8 < 8
      · simp [-BitVec.getLsbD_eq_getElem, h8, h16, h24, show 16 + (i - 8 - 8) = i by omega]
      · simp [-BitVec.getLsbD_eq_getElem, h8, h16, h24, show 24 + (i - 8 - 8 - 8) = i by omega,
          show i - 8 - 8 - 8 < 8 by omega]

end Sys2Proof.Laws
end

