-- ==== Sys2Proof/Laws/Engine.lean ====
section
/-! SUPPORT. What each operation of `PROCESS` can change (spec/44_fire_engine.md R198 v). -/

namespace Sys2Proof.Laws

open Sys2Proof Sys2Proof.Machine

/-- What no operation of the engine changes: every field but the chroma planes, `RNG_CTR` and the hidden working
registers (R198 i, v). -/
structure EngineFrame (s t : State) : Prop where
  nfReady : t.nfReady = s.nfReady
  instValid : t.instValid = s.instValid
  fatal : t.fatal = s.fatal
  lastErr : t.lastErr = s.lastErr
  width : t.width = s.width
  height : t.height = s.height
  cw : t.cw = s.cw
  ch : t.ch = s.ch
  params : t.params = s.params
  rngKey : t.rngKey = s.rngKey
  nf : t.nf = s.nf
  ym : t.ym = s.ym
  epoch : t.epoch = s.epoch
  nfMemOk : t.nfMemOk = s.nfMemOk
  inbox : t.inbox = s.inbox
  outbox : t.outbox = s.outbox

theorem EngineFrame.rfl (s : State) : EngineFrame s s := by constructor <;> exact Eq.refl _

theorem EngineFrame.trans {s t u : State} (h : EngineFrame s t) (k : EngineFrame t u) : EngineFrame s u := by
  constructor
  · exact k.nfReady.trans h.nfReady
  · exact k.instValid.trans h.instValid
  · exact k.fatal.trans h.fatal
  · exact k.lastErr.trans h.lastErr
  · exact k.width.trans h.width
  · exact k.height.trans h.height
  · exact k.cw.trans h.cw
  · exact k.ch.trans h.ch
  · exact k.params.trans h.params
  · exact k.rngKey.trans h.rngKey
  · exact k.nf.trans h.nf
  · exact k.ym.trans h.ym
  · exact k.epoch.trans h.epoch
  · exact k.nfMemOk.trans h.nfMemOk
  · exact k.inbox.trans h.inbox
  · exact k.outbox.trans h.outbox

theorem frame_pixAdd2 (pl : Chroma) (cy cx : Nat) (d : Int) (s : State) :
    EngineFrame s (pixAdd2 pl cy cx d s) := by constructor <;> simp

theorem frame_noiseInject (c : Config) (pl : Chroma) (cy cx : Nat) (s : State) :
    EngineFrame s (noiseInject c pl cy cx s) := by constructor <;> simp

theorem frame_flareCont (c : Config) (pl : Chroma) (cy cx : Nat) (s : State) :
    EngineFrame s (flareCont c pl cy cx s) := by constructor <;> simp

theorem frame_rngAdvance (s : State) : EngineFrame s (rngAdvance s) := by constructor <;> simp

theorem frame_flareIgnite (c : Config) (pl : Chroma) (cy cx : Nat) (ui : Word) (s : State) :
    EngineFrame s (flareIgnite c pl cy cx ui s) := by constructor <;> simp

theorem frame_passStart (c : Config) (s : State) : EngineFrame s (passStart c s) := by constructor <;> simp

/-- The two ways the ignition step goes: two draws, and an ignition or nothing more (R188). -/
theorem ignStep_cases (c : Config) (pl : Chroma) (cy cx : Nat) (e : Int) (s : State) :
    ignStep c pl cy cx e s = rngAdvance (rngAdvance s) ∨
    ignStep c pl cy cx e s =
      flareIgnite c pl cy cx (rngRaw c (rngAdvance s)) (rngAdvance (rngAdvance s)) := by
  unfold ignStep
  exact (ite_eq_or_eq _ _ _).symm

/-- An ignition writes no pixel, so the ignition step touches no plane (R191). -/
theorem ignStep_planes (c : Config) (pl : Chroma) (cy cx : Nat) (e : Int) (s : State) :
    (ignStep c pl cy cx e s).cb = s.cb ∧ (ignStep c pl cy cx e s).cr = s.cr := by
  rcases ignStep_cases c pl cy cx e s with h | h <;> rw [h] <;> exact ⟨rfl, rfl⟩

theorem frame_ignStep (c : Config) (pl : Chroma) (cy cx : Nat) (e : Int) (s : State) :
    EngineFrame s (ignStep c pl cy cx e s) := by
  rcases ignStep_cases c pl cy cx e s with h | h <;> rw [h]
  · exact (frame_rngAdvance s).trans (frame_rngAdvance _)
  · exact ((frame_rngAdvance s).trans (frame_rngAdvance _)).trans (frame_flareIgnite ..)

/-- The two ways a column step goes after its noise step (R195). -/
theorem column_cases (c : Config) (pl : Chroma) (cy cx : Nat) (s : State) :
    (c.fireMin ≤ s.fire.toInt ∧ column c pl cy cx s = flareCont c pl cy cx (noiseInject c pl cy cx s)) ∨
    (s.fire.toInt < c.fireMin ∧ column c pl cy cx s =
      ignStep c pl cy cx (edgeValue c (noiseInject c pl cy cx s) cy cx) (noiseInject c pl cy cx s)) := by
  unfold column
  simp only [noiseInject_fire]
  split
  · exact .inl ⟨‹_›, rfl⟩
  · exact .inr ⟨by omega, rfl⟩

theorem frame_column (c : Config) (pl : Chroma) (cy cx : Nat) (s : State) :
    EngineFrame s (column c pl cy cx s) := by
  rcases column_cases c pl cy cx s with ⟨-, h⟩ | ⟨-, h⟩ <;> rw [h]
  · exact (frame_noiseInject ..).trans (frame_flareCont ..)
  · exact (frame_noiseInject ..).trans (frame_ignStep ..)

theorem columns_zero (c : Config) (pl : Chroma) (cy : Nat) (s : State) : columns c pl cy 0 s = s := rfl

/-- One column more. -/
theorem columns_succ (c : Config) (pl : Chroma) (cy n : Nat) (s : State) :
    columns c pl cy (n + 1) s =
      column c pl cy n { columns c pl cy n s with cx := BitVec.ofNat 11 n } := by
  simp [columns, List.range_succ]

theorem frame_setCx (s : State) (v : BitVec 11) : EngineFrame s { s with cx := v } := by
  constructor <;> rfl

theorem frame_columns (c : Config) (pl : Chroma) (cy n : Nat) (s : State) :
    EngineFrame s (columns c pl cy n s) := by
  induction n with
  | zero => exact .rfl s
  | succ n ih =>
    rw [columns_succ]
    exact (ih.trans (frame_setCx _ _)).trans (frame_column ..)

theorem frame_pass (c : Config) (pl : Chroma) (cy : Nat) (s : State) : EngineFrame s (pass c pl cy s) := by
  have h : EngineFrame s { s with pl := pl } := by constructor <;> rfl
  exact (h.trans (frame_passStart c _)).trans (frame_columns ..)

theorem frame_rowPair (c : Config) (cy : Nat) (s : State) : EngineFrame s (rowPair c cy s) := by
  have h (t : State) (v : BitVec 11) : EngineFrame t { t with cy := v } := by constructor <;> rfl
  exact ((h s _).trans ((frame_pass ..).trans (frame_pass ..))).trans (h _ _)

theorem rowPairs_zero (c : Config) (s : State) : rowPairs c 0 s = s := rfl

/-- One scanline-pair more. -/
theorem rowPairs_succ (c : Config) (n : Nat) (s : State) :
    rowPairs c (n + 1) s = rowPair c (2 * n) (rowPairs c n s) := by
  simp [rowPairs, List.range_succ]

theorem frame_rowPairs (c : Config) (n : Nat) (s : State) : EngineFrame s (rowPairs c n s) := by
  induction n with
  | zero => exact .rfl s
  | succ n ih =>
    rw [rowPairs_succ]
    exact ih.trans (frame_rowPair ..)

/-- What a frame leaves unchanged (R198 i, v). -/
theorem frame_frame (c : Config) (s : State) : EngineFrame s (frame c s) := by
  have h : EngineFrame s { s with cy := 0 } := by constructor <;> rfl
  exact h.trans (frame_rowPairs ..)

/-! ### Which bytes an operation can change -/

/-- A saturating add changes its own byte only. -/
theorem pixAddSat_readPlane (pl : Chroma) (y x : Nat) (d : Int) (s : State) (q : Plane) (a : Nat) :
    (pixAddSat pl y x d s).readPlane q a =
      if q = .chroma pl ∧ a = y * s.cw.toNat + x then clamp8 ((s.chromaAt pl y x).toNat + d)
      else s.readPlane q a := by
  simp [pixAddSat, readPlane_setChroma]

/-- Outside the two bytes of its column a column step changes nothing. -/
theorem column_readPlane_other (c : Config) (pl : Chroma) (cy cx : Nat) (s : State) (q : Plane) (a : Nat)
    (h : ¬ (q = .chroma pl ∧ (a = cy * s.cw.toNat + cx ∨ a = (cy + 1) * s.cw.toNat + cx))) :
    (column c pl cy cx s).readPlane q a = s.readPlane q a := by
  have hadd (d : Int) (t : State) (ht : t.cw = s.cw) :
      (pixAdd2 pl cy cx d t).readPlane q a = t.readPlane q a := by
    unfold pixAdd2
    rw [pixAddSat_readPlane, pixAddSat_readPlane, if_neg, if_neg]
    · rintro ⟨rfl, rfl⟩; exact h ⟨rfl, .inl (by rw [ht])⟩
    · rintro ⟨rfl, rfl⟩; exact h ⟨rfl, .inr (by rw [pixAddSat_cw, ht])⟩
  have hnoise : (noiseInject c pl cy cx s).readPlane q a = s.readPlane q a := by
    unfold noiseInject
    split
    · exact hadd _ s rfl
    · rfl
  rcases column_cases c pl cy cx s with ⟨-, hc⟩ | ⟨-, hc⟩ <;> rw [hc, ← hnoise]
  · unfold flareCont
    split
    · exact hadd _ _ (by simp)
    · exact hadd _ _ (by simp)
  · have hp := ignStep_planes c pl cy cx (edgeValue c (noiseInject c pl cy cx s) cy cx) (noiseInject c pl cy cx s)
    have hf := frame_ignStep c pl cy cx (edgeValue c (noiseInject c pl cy cx s) cy cx) (noiseInject c pl cy cx s)
    exact readPlane_congr hf.ym hp.1 hp.2 hf.epoch q a

end Sys2Proof.Laws
end

