-- ==== Sys2Proof/Laws/Lattice.lean ====
section
/-! SUPPORT. The table `NF.BUILD` fills (R101): its entries, and that it is in canonical form. -/

namespace Sys2Proof.Laws

open Sys2Proof Sys2Proof.Machine

/-- The addresses of a run of lattice draws. -/
theorem latticeFrom_addr {c : Config} {n i : Nat} {ctr : Word} {e : Nat × Word}
    (h : e ∈ latticeFrom c n i ctr) : i ≤ e.1 ∧ e.1 < i + n := by
  induction n generalizing i ctr with
  | zero => cases h
  | succ n ih =>
    rcases List.mem_cons.1 h with rfl | h
    · exact ⟨Nat.le_refl _, by omega⟩
    · have := ih h; omega

theorem latticeFrom_wf (c : Config) (n i : Nat) (ctr : Word) : (latticeFrom c n i ctr).wf := by
  induction n generalizing i ctr with
  | zero => exact List.Pairwise.nil
  | succ n ih =>
    refine List.pairwise_cons.2 ⟨fun e he => ?_, ih _ _⟩
    have := (latticeFrom_addr he).1
    show i < e.1
    omega

theorem latticeTable_wf (c : Config) : (latticeTable c).wf := latticeFrom_wf _ _ _ _

/-- The lattice lists no index outside 0..NOISE_LEN−1. -/
theorem latticeTable_addr {c : Config} {e : Nat × Word} (h : e ∈ latticeTable c) : e.1 < c.noiseLen := by
  have := (latticeFrom_addr h).2
  omega

end Sys2Proof.Laws
end

