-- ==== Sys2Proof/Laws/PerInstr.lean ====
section
/-! SUPPORT. A law made per instruction: the command word the encoder writes is the `match` of its row of the
opcode table under the row's `mask` (spec/30_encoding.md R74). -/

namespace Sys2Proof.Laws

open Sys2Proof

/-- The `match` column of R74. -/
def rowMatch (i : Instr) : Word :=
  match i with
  | .nop => 0x00000000#32
  | .nfbuild => 0x00000001#32
  | .shutdown => 0x00000002#32
  | .construct _ _ => 0x00000010#32
  | .destroy => 0x00000011#32
  | .setp _ _ => 0x00000012#32
  | .getp _ => 0x00000013#32
  | .process _ => 0x00000014#32
  | .wrpx _ _ _ _ => 0x00000020#32
  | .rdpx _ _ _ => 0x00000021#32
  | .rngnext => 0x00000030#32
  | .rngunif => 0x00000031#32
  | .rngbound _ => 0x00000032#32
  | .nfsample _ _ _ => 0x00000033#32
  | .nfread _ => 0x00000034#32
  | .rdcsr _ => 0x00000040#32

/-- The `mask` column of R74. -/
def rowMask (i : Instr) : Word :=
  match i with
  | .nop => 0xFFFFFFFF#32
  | .nfbuild => 0xFFFFFFFF#32
  | .shutdown => 0xFFFFFFFF#32
  | .construct _ _ => 0xFFFFFFFF#32
  | .destroy => 0xFFFFFFFF#32
  | .setp _ _ => 0xFFFF00FF#32
  | .getp _ => 0xFFFF00FF#32
  | .process _ => 0xFFFFFFFF#32
  | .wrpx _ _ _ _ => 0xFFFF00FF#32
  | .rdpx _ _ _ => 0xFFFF00FF#32
  | .rngnext => 0xFFFFFFFF#32
  | .rngunif => 0xFFFFFFFF#32
  | .rngbound _ => 0xFFFFFFFF#32
  | .nfsample _ _ _ => 0xFFFFFFFF#32
  | .nfread _ => 0xFFFFFFFF#32
  | .rdcsr _ => 0xFFFF00FF#32

/-- The command word meets its row. -/
def RowMatch.Statement (i : Instr) : Prop := (encode i).w0 &&& rowMask i = rowMatch i

/-- Under the mask of format S the selector does not count. -/
theorem commandWord_masked (sel op : BitVec 8) :
    commandWord sel op &&& 0xFFFF00FF#32 = commandWord 0 op := by
  apply BitVec.eq_of_getLsbD_eq
  intro i hi
  rw [BitVec.getLsbD_and, commandWord_bit, commandWord_bit]
  by_cases h8 : i < 8
  · interval_cases i <;> simp [-BitVec.getLsbD_eq_getElem]
  · rw [if_neg h8, if_neg h8]
    interval_cases i <;> first | omega | simp [-BitVec.getLsbD_eq_getElem]

theorem RowMatch.nop : RowMatch.Statement (.nop) := by
  show commandWord 0 0x0 &&& 0xFFFFFFFF#32 = 0x0#32
  decide

theorem RowMatch.nfbuild : RowMatch.Statement (.nfbuild) := by
  show commandWord 0 0x1 &&& 0xFFFFFFFF#32 = 0x1#32
  decide

theorem RowMatch.shutdown : RowMatch.Statement (.shutdown) := by
  show commandWord 0 0x2 &&& 0xFFFFFFFF#32 = 0x2#32
  decide

theorem RowMatch.construct (w h : Word) : RowMatch.Statement (.construct w h) := by
  show commandWord 0 0x10 &&& 0xFFFFFFFF#32 = 0x10#32
  decide

theorem RowMatch.destroy : RowMatch.Statement (.destroy) := by
  show commandWord 0 0x11 &&& 0xFFFFFFFF#32 = 0x11#32
  decide

theorem RowMatch.setp (sel : Nat) (v : Word) : RowMatch.Statement (.setp sel v) := by
  show commandWord _ _ &&& 0xFFFF00FF#32 = 0x12#32
  rw [commandWord_masked]
  decide

theorem RowMatch.getp (sel : Nat) : RowMatch.Statement (.getp sel) := by
  show commandWord _ _ &&& 0xFFFF00FF#32 = 0x13#32
  rw [commandWord_masked]
  decide

theorem RowMatch.process (t : Word) : RowMatch.Statement (.process t) := by
  show commandWord 0 0x14 &&& 0xFFFFFFFF#32 = 0x14#32
  decide

theorem RowMatch.wrpx (sel : Nat) (x y v : Word) : RowMatch.Statement (.wrpx sel x y v) := by
  show commandWord _ _ &&& 0xFFFF00FF#32 = 0x20#32
  rw [commandWord_masked]
  decide

theorem RowMatch.rdpx (sel : Nat) (x y : Word) : RowMatch.Statement (.rdpx sel x y) := by
  show commandWord _ _ &&& 0xFFFF00FF#32 = 0x21#32
  rw [commandWord_masked]
  decide

theorem RowMatch.rngnext : RowMatch.Statement (.rngnext) := by
  show commandWord 0 0x30 &&& 0xFFFFFFFF#32 = 0x30#32
  decide

theorem RowMatch.rngunif : RowMatch.Statement (.rngunif) := by
  show commandWord 0 0x31 &&& 0xFFFFFFFF#32 = 0x31#32
  decide

theorem RowMatch.rngbound (n : Word) : RowMatch.Statement (.rngbound n) := by
  show commandWord 0 0x32 &&& 0xFFFFFFFF#32 = 0x32#32
  decide

theorem RowMatch.nfsample (k a sh : Word) : RowMatch.Statement (.nfsample k a sh) := by
  show commandWord 0 0x33 &&& 0xFFFFFFFF#32 = 0x33#32
  decide

theorem RowMatch.nfread (n : Word) : RowMatch.Statement (.nfread n) := by
  show commandWord 0 0x34 &&& 0xFFFFFFFF#32 = 0x34#32
  decide

theorem RowMatch.rdcsr (sel : Nat) : RowMatch.Statement (.rdcsr sel) := by
  show commandWord _ _ &&& 0xFFFF00FF#32 = 0x40#32
  rw [commandWord_masked]
  decide

end Sys2Proof.Laws
end

