-- ==== Sys2Proof/Laws/Port.lean ====
section
/-! SUPPORT. What the step relation does with the next event, said once for every meaning of the commands. -/

namespace Sys2Proof.Laws

open Sys2Proof Sys2Proof.Machine

/-- The four ways a step goes: nothing delivered, a reset, a legal packet, an illegal one. -/
theorem serve_cases (run : Instr → State → Result) (s : State) :
    (s.inbox = [] ∧ serve run s = .next s) ∨
    (∃ rest, s.inbox = .reset :: rest ∧ serve run s = .next { s with inbox := rest }.resetBlock) ∨
    (∃ p b rest i, s.inbox = .packet p b :: rest ∧ decode p = .ok i ∧
      serve run s = run i { s with inbox := rest, nfMemOk := b }) ∨
    (∃ p b rest e, s.inbox = .packet p b :: rest ∧ decode p = .error e ∧
      serve run s = illegalPacket { s with inbox := rest, nfMemOk := b }) := by
  obtain ⟨h, ht⟩ | ⟨e, rest, h, ht⟩ := takeEvent_cases s
  · exact .inl ⟨h, by simp [serve, ht]⟩
  · cases e with
    | reset => exact .inr (.inl ⟨rest, h, by simp [serve, ht]⟩)
    | packet p b =>
      cases hd : decode p with
      | ok i => exact .inr (.inr (.inl ⟨p, b, rest, i, h, hd, by simp [serve, ht, hd, State.withEnv]⟩))
      | error e => exact .inr (.inr (.inr ⟨p, b, rest, e, h, hd, by simp [serve, ht, hd, State.withEnv]⟩))

end Sys2Proof.Laws
end

