-- ==== Sys2Proof/Tests/Slice0.lean ====
section
/-! SUPPORT. Tests of the model against words and numbers the spec gives, and a witness for the hypotheses of each
statement. Expected values come from spec/95_test_vectors.md and the worked examples of the rules. -/

namespace Sys2Proof.Tests

open Sys2Proof Sys2Proof.Machine

/-! ### WellFormed: each check refuses an ill-formed term -/

theorem test_wf_setp : ¬ WellFormed (.setp 256 0) := by decide
theorem test_wf_getp : ¬ WellFormed (.getp 256) := by decide
theorem test_wf_wrpx : ¬ WellFormed (.wrpx 256 0 0 0) := by decide
theorem test_wf_rdpx : ¬ WellFormed (.rdpx 300 0 0) := by decide
theorem test_wf_rdcsr : ¬ WellFormed (.rdcsr 256) := by decide
theorem test_wf_selector_out_of_its_legal_values : WellFormed (.setp 7 0) := by decide

/-! ### Decoding, word by word (spec/95 2.1; the first of each family bit by bit: rsv, sel, op) -/

theorem test_decode_nop : decode ⟨0b00000000000000000000000000000000, 0, 0, 0⟩ = .ok .nop := by decide
theorem test_decode_nfbuild : decode ⟨0x00000001, 0, 0, 0⟩ = .ok .nfbuild := by decide
theorem test_decode_shutdown : decode ⟨0x00000002, 0, 0, 0⟩ = .ok .shutdown := by decide
theorem test_decode_construct :
    decode ⟨0b00000000000000000000000000010000, 0x40, 0x20, 0⟩ = .ok (.construct 0x40 0x20) := by decide
theorem test_decode_destroy : decode ⟨0x00000011, 0, 0, 0⟩ = .ok .destroy := by decide
theorem test_decode_setp :
    decode ⟨0b00000000000000000000001100010010, 0x00010000, 0, 0⟩ = .ok (.setp 3 0x00010000) := by decide
theorem test_decode_getp : decode ⟨0x00000313, 0, 0, 0⟩ = .ok (.getp 3) := by decide
theorem test_decode_process : decode ⟨0x00000014, 0xDEADBEEF, 1, 2⟩ = .ok (.process 0xDEADBEEF) := by decide
theorem test_decode_wrpx :
    decode ⟨0b00000000000000000000000100100000, 3, 0, 0x80⟩ = .ok (.wrpx 1 3 0 0x80) := by decide
theorem test_decode_rdpx : decode ⟨0x00000221, 3, 1, 0⟩ = .ok (.rdpx 2 3 1) := by decide
theorem test_decode_rngnext :
    decode ⟨0b00000000000000000000000000110000, 0, 0, 0⟩ = .ok .rngnext := by decide
theorem test_decode_rngunif : decode ⟨0x00000031, 0, 0, 0⟩ = .ok .rngunif := by decide
theorem test_decode_rngbound : decode ⟨0x00000032, 0x00010000, 0, 0⟩ = .ok (.rngbound 0x00010000) := by decide
theorem test_decode_nfsample :
    decode ⟨0x00000033, 0x7CE5, 0x00400000, 4⟩ = .ok (.nfsample 0x7CE5 0x00400000 4) := by decide
theorem test_decode_nfread : decode ⟨0x00000034, 9, 0, 0⟩ = .ok (.nfread 9) := by decide
theorem test_decode_rdcsr :
    decode ⟨0b00000000000000000001000001000000, 0, 0, 0⟩ = .ok (.rdcsr 0x10) := by decide
theorem test_decode_reserved : decode ⟨0x00010000, 0, 0, 0⟩ = .error .reservedNotZero := by decide
theorem test_decode_unassigned : decode ⟨0x000000FF, 0, 0, 0⟩ = .error .unassignedOp := by decide
theorem test_decode_selector_in_format_z : decode ⟨0x00000110, 0x40, 0x40, 0⟩ = .error .selNotZero := by decide
theorem test_decode_table_word :
    decodeTableWord 128 (0x312 + 0x10000 * 2 ^ 32) = some (.setp 3 0x10000) := by decide
theorem test_decode_short_bytes : decodeBytes [0, 0, 0, 0] = .error .notSixteenBytes := by decide

/-! ### Text form (spec/95 2.1, 2.2) -/

theorem test_text_setp : packetOfLine "SETP NOISE, 0x00010000" = some ⟨0x00000312, 0x00010000, 0, 0⟩ := by decide
theorem test_text_nfsample :
    packetOfLine "NFSAMPLE 5, -4194304, 4 ; sample" = some ⟨0x00000033, 5, 0xFFC00000, 4⟩ := by decide
theorem test_text_rdcsr : packetOfLine "RDCSR RNG_CTR" = some ⟨0x00001040, 0, 0, 0⟩ := by decide
theorem test_text_wrpx : packetOfLine "WRPX CB, 3, 0, 128" = some ⟨0x00000120, 3, 0, 0x80⟩ := by decide
theorem test_text_missing_operand : packetOfLine "CONSTRUCT 64" = none := by decide

/-! ### States and observations for the tests -/

/-- The lattice is ready, no instance. -/
def ready : State := { State.reset with nfReady := true, nf := latticeTable fse }

/-- An 8×4 instance right after `CONSTRUCT` (R41). -/
def live : State :=
  { ready with
    instValid := true, width := 8, height := 4, cw := 4, ch := 2,
    params := ⟨655, 19661, 31457, 8520⟩, rngCtr := 0x00000F01, rngKey := 0x9E3779B9 }

/-- The `FATAL` state (R269). -/
def dead : State := { State.reset with fatal := true, lastErr := 0x09 }

/-- The next state of an outcome, observed. -/
def observe {α : Type} (f : State → α) (r : Result) : Option α :=
  match r with
  | .next t => some (f t)
  | .fault _ => none
  | .refused _ => none

/-- The latest response, as status and result. -/
def answer (r : Result) : Option (Option (Nat × Nat)) :=
  observe (fun t => t.outbox.head?.map fun q => (q.r0.toNat, q.r1.toNat)) r

/-! ### Block-level commands (spec/95 2.7) -/

theorem test_nop_in_fatal : answer (exec .nop dead) = some (some (0, 0)) := by decide
theorem test_nfbuild_no_memory :
    observe (fun t => (t.fatal, t.lastErr)) (exec .nfbuild { State.reset with nfMemOk := false }) = some (true, 0x09) := by
  decide
theorem test_nfbuild_first_word :
    observe (fun t => (t.nfReady, t.lattice 0, t.lattice 3)) (exec .nfbuild State.reset) =
      some (true, 0x5FA256DC, 0x62C72E9F) := by decide +kernel
theorem test_shutdown_clears :
    observe (fun t => (t.fatal, t.lastErr, t.nfReady)) (exec .shutdown dead) = some (false, 0, false) := by decide

/-! ### Instance commands -/

theorem test_construct_64 :
    observe (fun t => (t.cw, t.ch, t.rngCtr, t.params.noise)) (exec (.construct 64 64) ready) =
      some (32, 32, 0xF01, 8520) := by decide
theorem test_construct_odd : answer (exec (.construct 63 64) ready) = some (some (7, 0)) := by decide
theorem test_destroy_keeps_lasterr :
    observe (fun t => (t.instValid, t.lastErr, t.rngKey)) (exec .destroy { live with lastErr := 6 }) =
      some (false, 6, 0) := by decide
theorem test_destroy_without_instance : answer (exec .destroy ready) = some (some (4, 0)) := by decide
theorem test_setp_minus_one :
    observe (fun t => (t.params.sat, t.params.edge)) (exec (.setp 2 0xFFFFFFFF) live) =
      some (0xFFFFFFFF, 19661) := by decide
theorem test_setp_index : answer (exec (.setp 4 0) live) = some (some (6, 0)) := by decide
theorem test_getp_noise : answer (exec (.getp 3) live) = some (some (0, 8520)) := by decide
theorem test_getp_without_instance : answer (exec (.getp 7) ready) = some (some (4, 0)) := by decide

/-- Program P2 of spec/95: random control 1.0, the others 0; an 8×4 frame. -/
def p2 : State :=
  { live with
    nf := [], params := ⟨65536, 0, 0, 0⟩,
    cb := [(0, 100), (1, 200), (2, 250), (3, 255), (4, 0), (5, 50), (6, 128), (7, 255)],
    cr := [(0, 128), (1, 128), (2, 128), (3, 128), (4, 128), (5, 128), (6, 128), (7, 128)] }

theorem test_process_forced_ignition :
    observe (fun t => (t.cb, t.rngCtr)) (exec (.process 0) p2) =
      some ([(0, 100), (1, 218), (2, 255), (3, 255), (4, 0), (5, 68), (6, 164), (7, 255)], 0xF07) := by
  decide +kernel
theorem test_process_second_plane :
    observe (fun t => t.cr) (exec (.process 0xDEADBEEF) p2) =
      some [(0, 128), (1, 136), (2, 145), (3, 154), (4, 128), (5, 136), (6, 145), (7, 154)] := by
  decide +kernel

/-! ### Plane access commands -/

theorem test_wrpx_last_luma :
    observe (fun t => t.ym) (exec (.wrpx 0 7 3 255) live) = some [(31, 255)] := by decide
theorem test_wrpx_value_range : answer (exec (.wrpx 0 0 0 256) live) = some (some (8, 0)) := by decide
theorem test_rdpx_back : answer (exec (.rdpx 1 1 1) p2) = some (some (0, 50)) := by decide
theorem test_rdpx_outside : answer (exec (.rdpx 1 4 0) live) = some (some (8, 0)) := by decide

/-! ### Unit access commands (spec/95 2.2, 2.3) -/

theorem test_rngnext : answer (exec .rngnext live) = some (some (0, 0x7CE09155)) := by decide
theorem test_rngnext_counter : observe (·.rngCtr) (exec .rngnext live) = some 0xF02 := by decide
theorem test_rngunif_second :
    answer (exec .rngunif { live with rngCtr := 0xF02 }) = some (some (0, 0xAD893775)) := by decide
theorem test_rngbound_ten : answer (exec (.rngbound 10) { live with rngCtr := 0xF03 }) = some (some (0, 7)) := by decide
theorem test_rngbound_zero_draws : observe (·.rngCtr) (exec (.rngbound 0) live) = some 0xF02 := by decide
theorem test_nfsample_negative :
    answer (exec (.nfsample 5 0xFFC00000 4) ready) = some (some (0, 0xFFECA1B8)) := by decide +kernel
theorem test_nfsample_wraps :
    answer (exec (.nfsample 0xFFFFFFFF 65536 4) ready) = some (some (0, 24413)) := by decide +kernel
theorem test_nfread_last : answer (exec (.nfread 4095) ready) = some (some (0, 0x478BCCD2)) := by decide +kernel
theorem test_nfread_range : answer (exec (.nfread 4096) ready) = some (some (8, 0)) := by decide

/-! ### Register read and the port -/

theorem test_rdcsr_status : answer (exec (.rdcsr 1) live) = some (some (0, 3)) := by decide
theorem test_rdcsr_reserved : answer (exec (.rdcsr 7) live) = some (some (6, 0)) := by decide
theorem test_step_illegal_in_fatal :
    answer (step { dead with inbox := [.packet ⟨0x99, 0, 0, 0⟩ true] }) = some (some (1, 0)) := by decide
theorem test_step_fetches : answer (step (State.reset.withFetchWord 128 0x40)) = some (some (0, 0x53454346)) := by decide
theorem test_step_reset_event :
    observe (fun t => (t.instValid, t.rngCtr)) (step { live with inbox := [.reset] }) = some (false, 0) := by decide

/-! ### Another configuration: the step relation takes it as an argument (R5, R33) -/

/-- A configuration with other constants: two lattice words, frames up to 8×8, draws that show the counter. -/
def other : Config := { fse with noiseLog2 := 1, maxDim := 8, rngMix := id, instKey := 0, fseId := 7 }

theorem test_other_is_valid : other.Valid ∧ other.FitsWidths := ⟨by constructor <;> decide, by constructor <;> decide⟩
theorem test_other_id : answer (stepAt other { dead with inbox := [.packet ⟨0x40, 0, 0, 0⟩ true] }) = some (some (0, 7)) := by
  decide
theorem test_other_max_dim : answer (execAt other (.construct 10 2) ready) = some (some (7, 0)) := by decide
theorem test_other_lattice_range : answer (execAt other (.nfread 2) ready) = some (some (8, 0)) := by decide
theorem test_other_draw :
    answer (execAt other (.rngbound 0x10000) { live with rngCtr := 0x1FFFF, rngKey := 0 }) = some (some (0, 2)) := by decide

/-! ### Detectors and the fire engine, value by value (spec/95 2.5, 2.6) -/

theorem test_edge_remap : (edgeRemap fse 1020, edgeRemap fse 0, edgeRemap fse 512) = (46871144, 20132864, 33554432) := by
  decide
theorem test_thresholds :
    (thrRnd fse 655, thrLuma fse 19661, thrChroma fse 31457) =
      (281446860128256, 112588272697344, 146368190480384) := by decide
theorem test_comparator_equality_is_no_ignition :
    (rndFires fse live 0xFFF9741F, rndFires fse live 0xFFF97420) = (false, true) := by decide
theorem test_chroma_comparator : (chromaFires fse live 0 133, chromaFires fse live 0 134) = (false, true) := by decide
theorem test_edge_comparator :
    (edgeFires fse live 0x4C6699FF 46871144, edgeFires fse live 0x4C669A00 46871144) = (true, false) := by decide
theorem test_clamp : (clamp8 (225 + 121), clamp8 (3 + -8), clamp8 (128 + -129), clamp8 255) = (255, 0, 0, 255) := by decide
theorem test_ignite_values :
    (igniteFire fse 0xFFFC0A71 134, igniteStep fse 134, igniteFire fse 0xC0000000 216, igniteStep fse 216) =
      (121, 15, 30, 5) := by decide
theorem test_ramp_values :
    [1, 2, 3, 4, 5].map (fun dx => rampAdd fse dx 121) = [18, 36, 54, 72, 90] := by decide
theorem test_noise_delta :
    (sampleDelta fse ready.lattice 31968 545280 4, sampleDelta fse ready.lattice 31973 545280 4) = (5, 6) := by
  decide +kernel

/-! ### Witnesses: a concrete state and operands that meet the hypotheses of each statement that has any -/

/-- An instance of any frame, right after `CONSTRUCT`. -/
def liveAt (w h : Nat) : State :=
  { live with width := BitVec.ofNat 13 w, height := BitVec.ofNat 13 h,
              cw := BitVec.ofNat 12 (w / 2), ch := BitVec.ofNat 12 (h / 2) }

/-- A flare in a wide instance: intensity 200, step 9, ignited at column 3, noise off. -/
def flare : State :=
  { liveAt 64 4 with fire := 200, fireStep := 9, ign := 3, params := ⟨65536, 0, 0, 0⟩ }

/-- An instance with all four controls at 0. -/
def calm : State := { liveAt 64 64 with params := ⟨0, 0, 0, 0⟩ }

theorem ready_fieldLive : ready.FieldLive := ⟨rfl, rfl⟩
theorem live_live : live.Live := ⟨rfl, rfl⟩
theorem liveAt_live (w h : Nat) : (liveAt w h).Live := ⟨rfl, rfl⟩

theorem witness_DecodeOfEncode :
    WellFormed .nop ∧ WellFormed (.setp 255 0xFFFFFFFF) ∧ WellFormed (.rdcsr 0) ∧ WellFormed (.wrpx 2 0 0 255) := by
  decide

theorem witness_EncodeOfDecode :
    decode ⟨0x00000313, 5, 6, 7⟩ = .ok (.getp 3) ∧ decode ⟨0x00000221, 3, 1, 9⟩ = .ok (.rdpx 2 3 1) := by decide

theorem witness_IllegalPacketsAreThoseNamed :
    decode ⟨0x80000000, 0, 0, 0⟩ = .error .reservedNotZero ∧ decode ⟨0x00000041, 0, 0, 0⟩ = .error .unassignedOp ∧
    decode ⟨0x0000FF34, 0, 0, 0⟩ = .error .selNotZero ∧ decode ⟨0x0000FF40, 0, 0, 0⟩ = .ok (.rdcsr 255) := by decide

/-- A parameter by name and a negative decimal, a plane by number and hexadecimal in upper case, and no operands. -/
theorem witness_TextLinesAreLegalPackets :
    (WellFormed (.setp 3 0xFFFFFFFF) ∧ LineText (.setp 3 0xFFFFFFFF) "SETP NOISE, -1 ; off") ∧
    (WellFormed (.rdpx 1 0xAB 0) ∧ LineText (.rdpx 1 0xAB 0) "RDPX 0x01,0x0AB,0") ∧ LineText .nop "NOP" ∧
    packetOfLine "GETP NOISE" = some ⟨0x00000313, 0, 0, 0⟩ := by
  refine ⟨⟨by decide, "SETP", [['N', 'O', 'I', 'S', 'E'], ['-', '1']], 1, 1, [';', ' ', 'o', 'f', 'f'], ?_, ?_, ?_⟩,
    ⟨by decide, "RDPX", [['0', 'x', '0', '1'], ['0', 'x', '0', 'A', 'B'], ['0']], 0, 0, [], ?_, ?_, ?_⟩,
    ⟨"NOP", [], 0, 0, [], ⟨rfl, rfl⟩, .inl rfl, by decide⟩, by decide⟩
  · exact ⟨rfl, _, _, .inr ⟨"NOISE", by decide, by decide⟩, .inr (by decide), rfl⟩
  · exact .inr ⟨_, rfl⟩
  · decide
  · exact ⟨rfl, _, _, _, .inl ⟨1, .inr ⟨false, by decide⟩⟩, .inl ⟨1, .inr ⟨true, by decide⟩⟩,
      .inl ⟨0, .inl (by decide)⟩, rfl⟩
  · exact .inl rfl
  · decide

theorem witness_StepRunsDecoded :
    ({ live with inbox := [.packet ⟨0x14, 9, 0, 0⟩ false, .reset] } : State).inbox =
      .packet ⟨0x14, 9, 0, 0⟩ false :: [.reset] ∧ decode ⟨0x14, 9, 0, 0⟩ = .ok (.process 9) := by decide

theorem witness_OnlyDeliveredCommandsRun :
    State.reset.inbox = [] ∧ decodeTableWord 128 (0x10 + 64 * 2 ^ 32 + 64 * 2 ^ 64) = some (.construct 64 64) := by
  decide

theorem witness_IllegalPacketAnswered :
    ({ dead with inbox := [.packet ⟨0x10000, 0, 0, 0⟩ true] } : State).inbox = .packet ⟨0x10000, 0, 0, 0⟩ true :: [] ∧
    decode ⟨0x10000, 0, 0, 0⟩ = .error .reservedNotZero := by decide

theorem witness_ResetAndShutdownLeaveTheTable :
    ({ live with inbox := [.reset, .reset] } : State).inbox = .reset :: [.reset] := rfl

theorem witness_NfbuildOutcomes :
    dead.fatal = true ∧ (ready.fatal = false ∧ ready.nfReady = true) ∧
    (State.reset.fatal = false ∧ State.reset.nfReady = false ∧ State.reset.nfMemOk = true) ∧
    (({ State.reset with nfMemOk := false } : State).fatal = false ∧
      ({ State.reset with nfMemOk := false } : State).nfReady = false ∧
      ({ State.reset with nfMemOk := false } : State).nfMemOk = false) := by decide

theorem witness_LatticeIsTheWriteLoop :
    Memory.wf ([(0, 7#32), (4095, 9#32)] : Memory 32) ∧
    (∀ e ∈ ([(0, 7#32), (4095, 9#32)] : Memory 32), e.1 < fse.noiseLen) ∧ 4095 < fse.noiseLen := by decide

theorem witness_FatalStateInFull :
    (∃ t, exec .nfbuild { State.reset with nfMemOk := false } = .next t ∧ t.fatal = true) ∧
    State.reset.fatal = false ∧ ({ State.reset with nfMemOk := false } : State).FlagsOk ∧
    dead.fatal = true ∧ dead.FlagsOk ∧ Csr.ofSel 0x11 = some .rngKey ∧
    ¬ servedInFatal .nfbuild ∧ ¬ servedInFatal (.process 0) ∧
    decode ⟨0x10000, 0, 0, 0⟩ = .error .reservedNotZero := by
  refine ⟨⟨_, rfl, rfl⟩, rfl, ?_, rfl, ?_, rfl, ?_, ?_, rfl⟩
  · unfold State.FlagsOk; decide
  · unfold State.FlagsOk; decide
  · simp [servedInFatal]
  · simp [servedInFatal]

theorem witness_ConstructMakesTheInstance :
    ready.FieldLive ∧ ready.instValid = false ∧ LegalFrame 2 2 ∧ LegalFrame 4096 4096 ∧ LegalFrame 64 2 := by
  unfold State.FieldLive LegalFrame; decide

theorem witness_ConstructRefusals :
    dead.fatal = true ∧ (State.reset.fatal = false ∧ State.reset.nfReady = false) ∧
    (live.FieldLive ∧ live.instValid = true) ∧ (ready.FieldLive ∧ ready.instValid = false) ∧
    ¬ LegalFrame 4098 2 ∧ ¬ LegalFrame 2 0 ∧ ¬ LegalFrame 3 2 ∧ ¬ LegalFrame 2 0x10000040 := by
  unfold State.FieldLive LegalFrame; decide

theorem witness_DestroyReleasesTheInstance :
    dead.fatal = true ∧ (ready.fatal = false ∧ ready.instValid = false) ∧ live.Live ∧ live.nfReady = true ∧
    LegalFrame 4096 2 := by
  unfold State.Live LegalFrame; decide

theorem witness_SetpWritesOneControl :
    dead.fatal = true ∧ (ready.fatal = false ∧ ready.instValid = false) ∧ live.Live ∧ 3 < 4 := by
  unfold State.Live; decide

theorem witness_GetpReadsOneControl :
    dead.fatal = true ∧ (ready.fatal = false ∧ ready.instValid = false) ∧ live.Live ∧ 3 < 4 ∧
    ready.FieldLive ∧ LegalFrame 64 64 := by
  unfold State.Live State.FieldLive LegalFrame; decide

/-- With CH = 3 the byte at 2·⌊3/2⌋·4 = 8 is in the plane and below the traversal; CH = 1 has no pass. -/
theorem witness_ProcessCompletesAndFrames :
    dead.fatal = true ∧ (ready.fatal = false ∧ ready.instValid = false) ∧ (liveAt 8 6).Live ∧
    (2 * ((liveAt 8 6).ch.toNat / 2) * (liveAt 8 6).cw.toNat = 8 ∧ 8 < (liveAt 8 6).cw.toNat * (liveAt 8 6).ch.toNat) ∧
    (liveAt 8 2).Live ∧ (liveAt 8 2).ch.toNat ≤ 1 := by
  unfold State.Live; decide

theorem witness_planeSel :
    PlaneSel 0 .luma ∧ PlaneSel 1 (.chroma .cb) ∧ PlaneSel 2 (.chroma .cr) := by unfold PlaneSel; decide

/-- The last pixel and the first one outside, of a luma and of a chroma plane; the last value and the first too large. -/
theorem witness_WrpxWritesOneByte :
    dead.fatal = true ∧ (ready.fatal = false ∧ ready.instValid = false) ∧ live.Live ∧ 2 < 3 ∧
    PlaneSel 0 .luma ∧ PlaneSel 2 (.chroma .cr) ∧
    ((7 : Word).toNat < live.planeWidth .luma ∧ (3 : Word).toNat < live.planeHeight .luma ∧ (255 : Word).toNat ≤ 255) ∧
    ((3 : Word).toNat < live.planeWidth (.chroma .cr) ∧ (1 : Word).toNat < live.planeHeight (.chroma .cr)) ∧
    ¬ ((8 : Word).toNat < live.planeWidth .luma ∧ (3 : Word).toNat < live.planeHeight .luma ∧ (255 : Word).toNat ≤ 255) ∧
    ¬ ((3 : Word).toNat < live.planeWidth (.chroma .cr) ∧ (2 : Word).toNat < live.planeHeight (.chroma .cr) ∧
      (0 : Word).toNat ≤ 255) ∧
    ¬ ((7 : Word).toNat < live.planeWidth .luma ∧ (3 : Word).toNat < live.planeHeight .luma ∧ (256 : Word).toNat ≤ 255) ∧
    ((liveAt 64 64).Live ∧ (liveAt 64 64).width = 64 ∧ (liveAt 64 64).height = 64 ∧ (liveAt 64 64).cw = 32 ∧
      (liveAt 64 64).ch = 32) := by
  unfold State.Live PlaneSel; decide

theorem witness_RdpxReadsOneByte :
    dead.fatal = true ∧ (ready.fatal = false ∧ ready.instValid = false) ∧ live.Live ∧ 2 < 3 ∧
    PlaneSel 1 (.chroma .cb) ∧
    ((3 : Word).toNat < live.planeWidth (.chroma .cb) ∧ (1 : Word).toNat < live.planeHeight (.chroma .cb)) ∧
    ¬ ((4 : Word).toNat < live.planeWidth (.chroma .cb) ∧ (1 : Word).toNat < live.planeHeight (.chroma .cb)) := by
  unfold State.Live PlaneSel; decide

theorem witness_WrpxThenRdpxAnswersTheValue :
    live.Live ∧ PlaneSel 1 (.chroma .cb) ∧ (3 : Word).toNat < live.planeWidth (.chroma .cb) ∧
    (1 : Word).toNat < live.planeHeight (.chroma .cb) ∧ (255 : Word).toNat ≤ 255 := by
  unfold State.Live PlaneSel; decide

/-- For `RNGNEXT`, `RNGUNIF` and `RNGBOUND`. -/
theorem witness_RngnextDraws :
    dead.fatal = true ∧ (ready.fatal = false ∧ ready.instValid = false) ∧ live.Live ∧ live.rngCtr = 0x00000F01 ∧
    live.rngKey = 0x9E3779B9 := by
  unfold State.Live; decide

theorem witness_RngunifDrawsTheSameBits :
    dead.fatal = true ∧ (ready.fatal = false ∧ ready.instValid = false) ∧ live.Live := by
  unfold State.Live; decide

theorem witness_RngboundDraws :
    dead.fatal = true ∧ (ready.fatal = false ∧ ready.instValid = false) ∧ live.Live ∧ live.rngCtr = 0x00000F01 ∧
    live.rngKey = 0x9E3779B9 := by
  unfold State.Live; decide

theorem witness_BoundedDrawIsBelowTheBound : 1 ≤ 1 ∧ (0 : Nat) = 0 ∧ 0 < 32 ∧ 31 < 32 := by decide

theorem witness_NthDrawAfterSeeding : ({ live with rngCtr := 0xFFFFFFFF } : State).rngCtr = 0xFFFFFFFF := rfl

theorem witness_SmoothstepIsExactAndBelowOne : 15 < 2 ^ 4 ∧ 0 < 2 ^ 0 ∧ (14 < 15 ∧ 15 < 2 ^ 4) := by decide

theorem witness_SampleFitsTheResultWord :
    ((-2 ^ 31 : Int) ≤ -2 ^ 31 ∧ (-2 ^ 31 : Int) < 2 ^ 31) ∧ ((-2 ^ 31 : Int) ≤ 2 ^ 31 - 1 ∧ (2 ^ 31 - 1 : Int) < 2 ^ 31) := by
  decide

theorem witness_NoiseDeltaIsBounded : (0 : Int) < 1 ∧ (-1 : Int) < 0 ∧ (0 : Int) = 0 := by decide

theorem witness_NfsampleAnswersTheSample :
    dead.fatal = true ∧ (State.reset.fatal = false ∧ State.reset.nfReady = false) ∧ ready.FieldLive ∧
    8 < (9 : Word).toNat ∧ (8 : Word).toNat ≤ 8 ∧ ready.LatticeOk :=
  ⟨rfl, ⟨rfl, rfl⟩, ready_fieldLive, by decide, by decide, fun _ => rfl⟩

theorem witness_NfreadAnswersTheWord :
    dead.fatal = true ∧ (State.reset.fatal = false ∧ State.reset.nfReady = false) ∧ ready.FieldLive ∧ ready.LatticeOk ∧
    4096 ≤ (4096 : Word).toNat ∧ (4095 : Word).toNat < 4096 :=
  ⟨rfl, ⟨rfl, rfl⟩, ready_fieldLive, fun _ => rfl, by decide, by decide⟩

theorem witness_RdcsrReadsTheMap :
    (live.FieldLive ∧ live.instValid = true) ∧ ∀ sel ∈ [0x07, 0x0C, 0x0F, 0x12, 0xFF],
      sel ∉ [0x00, 0x01, 0x02, 0x03, 0x04, 0x05, 0x06, 0x08, 0x09, 0x0A, 0x0B, 0x10, 0x11] := by
  unfold State.FieldLive; decide

theorem witness_ChecksDecideInOrder :
    (({ dead with inbox := [.packet ⟨0x99, 0, 0, 0⟩ true] } : State).inbox = [.packet ⟨0x99, 0, 0, 0⟩ true] ∧
      decode ⟨0x99, 0, 0, 0⟩ = .error .unassignedOp) ∧
    (dead.fatal = true ∧ ¬ servedInFatal (.getp 9)) ∧
    (State.reset.fatal = false ∧ State.reset.nfReady = false ∧ needsField (.nfread 5000)) ∧
    (ready.fatal = false ∧ ready.instValid = false ∧ needsInstance (.getp 9)) ∧
    (live.FieldLive ∧ live.instValid = true) ∧ (ready.FieldLive ∧ ready.instValid = false ∧ ¬ LegalFrame 2 4098) ∧
    (live.Live ∧ 3 < 4 ∧ 2 < 3 ∧ Csr.ofSel 7 = none) ∧
    (PlaneSel 1 (.chroma .cb) ∧
      ¬ ((4 : Word).toNat < live.planeWidth (.chroma .cb) ∧ (0 : Word).toNat < live.planeHeight (.chroma .cb))) ∧
    8 < (9 : Word).toNat ∧ 4096 ≤ (4096 : Word).toNat := by
  refine ⟨by decide, ⟨rfl, by simp [servedInFatal]⟩, ⟨rfl, rfl, ?_⟩, ⟨rfl, rfl, ?_⟩, ?_⟩
  · exact .inr (.inr ⟨_, rfl⟩)
  · exact .inr (.inr (.inl ⟨_, rfl⟩))
  · unfold State.FieldLive State.Live LegalFrame PlaneSel; decide

/-- An error of the host, the failed build, and a command that ends `OK`. -/
theorem witness_RefusedCommandsChangeNothing :
    (∃ t, exec (.setp 4 0) live = .next t ∧ t.outbox = ⟨6, 0⟩ :: live.outbox) ∧
    (∃ t, exec .nfbuild { State.reset with nfMemOk := false } = .next t ∧ t.outbox = ⟨9, 0⟩ :: []) ∧
    (∃ t, exec (.setp 3 0) live = .next t ∧ t.outbox = ⟨0, 0⟩ :: live.outbox ∧ Instr.setp 3 0 ≠ .shutdown) :=
  ⟨⟨_, rfl, rfl⟩, ⟨_, rfl, rfl⟩, ⟨_, rfl, rfl, by decide⟩⟩

theorem fse_valid : fse.Valid := by constructor <;> decide

/-- The defaults, and another valid configuration. -/
theorem witness_IgnitionTestIsTheRationalOne : fse.Valid ∧ ({ fse with kR := 0, fireCeil := 300 } : Config).Valid :=
  ⟨fse_valid, by constructor <;> decide⟩

theorem witness_ZeroControlsNeverIgnite :
    fse.Valid ∧ calm.params.rnd = 0 ∧ calm.params.edge = 0 ∧ calm.params.sat = 0 := ⟨fse_valid, rfl, rfl, rfl⟩

theorem witness_EdgeValueIsTheRemap :
    (p2.params.edge.toInt ≤ 0 ∧ 3 + 1 = live.cw.toNat) ∧ (0 < live.params.edge.toInt ∧ 2 + 1 ≠ live.cw.toNat) := by decide

theorem witness_PixelAddSaturates :
    (p2.chromaAt .cb 0 3).toNat = 255 ∧ (p2.chromaAt .cb 1 0).toNat = 0 ∧ (p2.chromaAt .cb 0 1).toNat = 200 ∧
    (0 : Int) < 1 ∧ (-1 : Int) < 0 := by decide

theorem witness_PixelAddBleedsToTheRowPair : p2.cw ≠ 0 := by decide

/-- The largest instance at the largest phase. -/
def largest : State := { liveAt 4096 4096 with phase := 65535 }

/-- The state of the worked example of R182. -/
def firstPass : State := { live with phase := 31968 }

/-- The noise control off and on, the last pixel of the largest frame, and the state of the worked example. -/
theorem witness_NoiseInjectAddsTheSample :
    flare.params.noise = 0 ∧ (live.params.noise ≠ 0 ∧ 0 < live.params.noise.toInt ∧ live.cw ≠ 0) ∧
    (largest.DimsOk ∧ largest.instValid = true ∧ largest.FireOk ∧ 2046 + 1 < largest.ch.toNat ∧ 2047 < largest.cw.toNat) ∧
    (firstPass.FieldLive ∧ firstPass.LatticeOk ∧ firstPass.params.noise = 8520 ∧ firstPass.phase = 31968) := by
  refine ⟨rfl, by decide, ?_, ⟨rfl, rfl⟩, fun _ => rfl, rfl, rfl⟩
  unfold State.DimsOk State.FireOk; decide

/-- The seed of the first pass, and a column with a flare and one without. -/
theorem witness_PassAndColumnDrawInOrder :
    (live.rngCtr = 0x00000F01 ∧ live.rngKey = 0x9E3779B9) ∧ (fse.fireMin : Int) ≤ flare.fire.toInt ∧
    live.fire.toInt < fse.fireMin := by decide

/-- The last column of the ramp and the first of the decay; then a fire state at the ends of its range. -/
theorem witness_FlareContinuesByRampOrDecay :
    flare.FireOk ∧ flare.cw ≠ 0 ∧ flareDx flare 8 < 6 ∧ 6 ≤ flareDx flare 9 ∧
    ({ flare with fire := -16, fireStep := 32 } : State).FireOk ∧ ({ flare with fire := 255, fireStep := 4 } : State).FireOk := by
  unfold State.FireOk; decide

theorem witness_IgnitionSetsTheFireState : 0 < 2048 ∧ 2047 < 2048 ∧ fse.Valid := ⟨by decide, by decide, fse_valid⟩

theorem witness_IgnitionWritesNoPixel : p2.fire.toInt < fse.fireMin ∧ 2047 < 2048 := by decide

/-- The three states: none, the last column of a ramp (dx = 5), a decay (dx = 6), and its last column. -/
theorem witness_FlareStatesMoveAsTheRuleSays :
    (p2.FireOk ∧ p2.ign.toNat ≤ 0 ∧ flareState fse p2 0 = .idle) ∧
    (flare.FireOk ∧ flare.ign.toNat ≤ 8 ∧ 8 < 2048 ∧ flareState fse flare 8 = .ramping) ∧
    (flare.ign.toNat ≤ 9 ∧ flareState fse flare 9 = .decaying) ∧
    (({ flare with fire := 16 } : State).FireOk ∧ flareState fse { flare with fire := 16 } 9 = .decaying) := by
  unfold State.FireOk; decide

/-- The end of the ramp (n = 5), and the last column of the decay: 200 − 20·9 = 20, one step more is below 16. -/
theorem witness_FlareFollowsItsProfile :
    flare.params.noise = 0 ∧ 16 ≤ flare.fire.toInt ∧ flare.fire.toInt ≤ 255 ∧ flare.fireStep.toNat ≤ 32 ∧
    flare.ign.toNat = 3 ∧ 3 + 26 < flare.cw.toNat ∧ 5 ≤ 5 ∧
    16 ≤ flare.fire.toInt - (((26 : Nat) : Int) - 6) * flare.fireStep.toNat := by decide

theorem witness_FrameIsTheWhileLoop : (liveAt 8 6).ch.toNat ≤ 3 := by decide

/-- With a threshold no intensity reaches, no column continues a flare. -/
theorem frameContinuations_eq_zero (s : State) : frameContinuations { fse with fireMin := 512 } s = 0 := by
  have h (v : BitVec 10) : ¬ ((512 : Int) ≤ v.toInt) := by have := BitVec.toInt_lt (x := v); norm_num at this; omega
  simp [frameContinuations, passContinuations, continuations, h]

theorem witness_DrawCountOfOneFrame :
    2 ≤ (liveAt 8 4).ch.toNat ∧ (liveAt 8 2).ch.toNat ≤ 1 ∧ (liveAt 64 64).cw = 32 ∧ (liveAt 64 64).ch = 32 ∧
    frameContinuations { fse with fireMin := 512 } (liveAt 64 64) = 0 :=
  ⟨by decide, by decide, rfl, rfl, frameContinuations_eq_zero _⟩

/-- The noise control at 0 and at its largest value. -/
theorem witness_NoiseOnlyFrameStaysInItsBound :
    (calm.Live ∧ calm.params.rnd = 0 ∧ calm.params.edge = 0 ∧ calm.params.sat = 0 ∧ calm.params.noise = 0) ∧
    0 ≤ ({ calm with params := ⟨0, 0, 0, 0x7FFFFFFF⟩ } : State).params.noise.toInt :=
  ⟨⟨⟨rfl, rfl⟩, rfl, rfl, rfl, rfl⟩, by decide⟩

theorem witness_FrameIgnoresHiddenRegistersAndUnusedLuma :
    calm.params.edge.toInt ≤ 0 ∧ ({ live with params := ⟨0, 0xFFFFFFFF, 0, 0⟩ } : State).params.edge.toInt ≤ 0 := by decide

theorem witness_EngineAddressesAreInRange :
    ((liveAt 4096 4096).DimsOk ∧ (liveAt 4096 4096).instValid = true ∧ 2 ≤ (liveAt 4096 4096).cw.toNat) ∧
    ((liveAt 2 2).DimsOk ∧ (liveAt 2 2).instValid = true) ∧ 2046 + 1 < (liveAt 4096 4096).ch.toNat ∧
    (live.DimsOk ∧ live.instValid = true ∧ live.AgreeOnLuma { live with ym := [(32, 1)] } ∧
      live.AgreeOnChroma { live with cb := [(8, 1)], cr := [(9, 2)] } ∧ live.cw.toNat * live.ch.toNat ≤ 8) := by
  refine ⟨?_, ?_, by decide, ?_, by decide, ?_, ?_, by decide⟩
  · unfold State.DimsOk; decide
  · unfold State.DimsOk; decide
  · unfold State.DimsOk; decide
  · intro a h
    have h32 : a ≠ 32 := by have h' : a < 8 * 4 := h; omega
    simp [State.readPlane, State.memory, Memory.read, h32, show live.ym = [] from rfl]
  · intro q a h
    have h8 : a < 4 * 2 := h
    cases q <;> simp [State.readPlane, State.memory, Memory.read, show a ≠ 8 by omega, show a ≠ 9 by omega,
      show live.cb = [] from rfl, show live.cr = [] from rfl]

/-- The invariant in a live state, before a packet. -/
theorem witness_StepKeepsInv :
    ({ live with inbox := [.packet ⟨0, 0, 0, 0⟩ true] } : State).Inv ∧
    ∃ t, step { live with inbox := [.packet ⟨0, 0, 0, 0⟩ true] } = .next t := by
  refine ⟨⟨?_, ?_, ?_, fun _ => rfl, ?_, ?_⟩, ⟨_, rfl⟩⟩
  · unfold State.FlagsOk; decide
  · unfold State.DimsOk; decide
  · unfold State.ClearedOk; decide
  · exact ⟨Sys2Proof.Laws.latticeTable_wf fse, by decide, by decide, by decide, by decide, by decide, by decide⟩
  · unfold State.FireOk; decide

/-- Reset itself, the `FATAL` state after one failed build, and an instance after a build and a `CONSTRUCT`. -/
theorem witness_ReachableStatesKeepTheRules :
    Reachable State.reset ∧ (∃ s, Reachable s ∧ s.fatal = true) ∧
    ∃ s, Reachable s ∧ s.instValid = true ∧ s.nfReady = true :=
  ⟨⟨[], 0, rfl⟩, ⟨_, ⟨[.packet ⟨1, 0, 0, 0⟩ false], 1, rfl⟩, rfl⟩,
    ⟨_, ⟨[.packet ⟨1, 0, 0, 0⟩ true, .packet ⟨0x10, 2, 4096, 0⟩ true], 2, rfl⟩, rfl, rfl⟩⟩

end Sys2Proof.Tests
end

section
/-! The memory rules of spec/20_memory.md: the addresses the engine forms stay inside the planes (R53), so the bytes of
the plane memories outside the planes neither matter to a frame nor change. -/

namespace Sys2Proof.Proofs

open Sys2Proof Sys2Proof.Machine Sys2Proof.Laws

/-! ### Addresses -/

/-- A pixel of a plane lies inside the plane's bytes (R52). -/
theorem pixelAddr_lt {s : State} {p : Plane} {y x : Nat} (hy : y < s.planeHeight p) (hx : x < s.planeWidth p) :
    s.pixelAddr p y x < s.planeWidth p * s.planeHeight p := by
  calc y * s.planeWidth p + x < (y + 1) * s.planeWidth p := by rw [Nat.succ_mul]; omega
    _ ≤ s.planeHeight p * s.planeWidth p := Nat.mul_le_mul_right _ hy
    _ = s.planeWidth p * s.planeHeight p := Nat.mul_comm ..

theorem luma_pixelAddr_lt {s : State} {y x : Nat} (hy : y < s.height.toNat) (hx : x < s.width.toNat) :
    s.pixelAddr .luma y x < s.width.toNat * s.height.toNat := pixelAddr_lt (p := .luma) hy hx

theorem chroma_pixelAddr_lt {s : State} {y x : Nat} (pl : Chroma) (hy : y < s.ch.toNat) (hx : x < s.cw.toNat) :
    s.pixelAddr (.chroma pl) y x < s.cw.toNat * s.ch.toNat := pixelAddr_lt (p := .chroma pl) hy hx

/-- The luma plane is twice the chroma planes in each direction (R42 iii). -/
theorem dims_double {s : State} (hd : s.DimsOk) (hi : s.instValid = true) :
    s.width.toNat = 2 * s.cw.toNat ∧ s.height.toNat = 2 * s.ch.toNat := by
  obtain ⟨hw, -, -, hh, -, -, hcw, hch⟩ := hd hi
  omega

/-! ### The traversal, once: what its parts keep, a frame keeps (R196) -/

/-- A relation between two states that survives every part of the frame traversal: the loop registers, the start of a
pass, and a column step at a pixel whose row pair and column are in the chroma planes. -/
structure TraversalRel (c : Config) (R : State → State → Prop) : Prop where
  dims : ∀ {s t}, R s t → t.cw = s.cw ∧ t.ch = s.ch
  setCy : ∀ {s t} (v : BitVec 11), R s t → R { s with cy := v } { t with cy := v }
  setPl : ∀ {s t} (pl : Chroma), R s t → R { s with pl := pl } { t with pl := pl }
  setCx : ∀ {s t} (v : BitVec 11), R s t → R { s with cx := v } { t with cx := v }
  passStart : ∀ {s t}, R s t → R (passStart c s) (passStart c t)
  column : ∀ {s t} (pl : Chroma) (cy cx : Nat), R s t → cy + 1 < s.ch.toNat → cx < s.cw.toNat →
    R (column c pl cy cx s) (column c pl cy cx t)

namespace TraversalRel

variable {c : Config} {R : State → State → Prop} {s t : State} {cy : Nat}

theorem columns (hR : TraversalRel c R) (pl : Chroma) (h : R s t) (hcy : cy + 1 < s.ch.toNat) {n : Nat}
    (hn : n ≤ s.cw.toNat) : R (columns c pl cy n s) (columns c pl cy n t) := by
  induction n with
  | zero => exact h
  | succ n ih =>
    have hf := frame_columns c pl cy n s
    rw [columns_succ, columns_succ]
    refine hR.column pl cy n (hR.setCx _ (ih (Nat.le_of_succ_le hn))) ?_ ?_
    · simpa only [hf.ch] using hcy
    · rw [← hf.cw] at hn; exact hn

theorem pass (hR : TraversalRel c R) (pl : Chroma) (h : R s t) (hcy : cy + 1 < s.ch.toNat) :
    R (pass c pl cy s) (pass c pl cy t) := by
  have hcols := hR.columns pl (hR.passStart (hR.setPl pl h)) hcy (n := s.cw.toNat) le_rfl
  simpa only [Machine.pass, (hR.dims h).1] using hcols

theorem rowPair (hR : TraversalRel c R) (h : R s t) (hcy : cy + 1 < s.ch.toNat) :
    R (rowPair c cy s) (rowPair c cy t) := by
  have hcb := hR.pass .cb (hR.setCy (BitVec.ofNat 11 cy) h) hcy
  refine hR.setCy _ (hR.pass .cr hcb ?_)
  simpa only [(frame_pass c .cb cy { s with cy := BitVec.ofNat 11 cy }).ch] using hcy

theorem rowPairs (hR : TraversalRel c R) (h : R s t) {n : Nat} (hn : n ≤ pairCount s.ch.toNat) :
    R (rowPairs c n s) (rowPairs c n t) := by
  induction n with
  | zero => exact h
  | succ n ih =>
    rw [rowPairs_succ, rowPairs_succ]
    refine hR.rowPair (ih (Nat.le_of_succ_le hn)) ?_
    rw [(frame_rowPairs c n s).ch]
    unfold pairCount at hn
    omega

theorem frame (hR : TraversalRel c R) (h : R s t) : R (frame c s) (frame c t) := by
  have hrows := hR.rowPairs (hR.setCy 0 h) (n := pairCount s.ch.toNat) le_rfl
  simpa only [Machine.frame, (hR.dims h).2] using hrows

end TraversalRel

/-! ### Luma is read by the edge value alone -/

/-- The state with another luma memory. -/
def withLuma (m : Memory 8) (s : State) : State := { s with ym := m }

/-- The edge value reads luma, the dimensions and the controls, none of which the engine changes. -/
theorem edgeValue_of_engineFrame {s t : State} (h : EngineFrame s t) (c : Config) (cy cx : Nat) :
    edgeValue c t cy cx = edgeValue c s cy cx := by
  have hluma (y x : Nat) : t.lumaAt y x = s.lumaAt y x := by
    simp only [State.lumaAt, State.readPlane, State.memory, State.pixelAddr, State.planeWidth, h.ym, h.width, h.epoch]
  have hdiff : edgeDiff t cy cx = edgeDiff s cy cx := by simp only [edgeDiff, lumaBlock, hluma]
  have hcontrol : t.control .edge = s.control .edge := congrArg (fun p : Params => s32 p.edge) h.params
  unfold edgeValue
  rw [hdiff, hcontrol, h.cw]

theorem engineFrame_withLuma {s t : State} (h : EngineFrame s t) (m : Memory 8) :
    EngineFrame (withLuma m s) (withLuma m t) := { h with ym := rfl }

theorem chromaAt_withLuma (m : Memory 8) (s : State) (pl : Chroma) (y x : Nat) :
    (withLuma m s).chromaAt pl y x = s.chromaAt pl y x := by cases pl <;> rfl

theorem chromaDiff_withLuma (m : Memory 8) (s : State) (cy cx : Nat) :
    chromaDiff (withLuma m s) cy cx = chromaDiff s cy cx := by simp only [chromaDiff, chromaAt_withLuma]

theorem pixAdd2_withLuma (m : Memory 8) (s : State) (pl : Chroma) (cy cx : Nat) (d : Int) :
    pixAdd2 pl cy cx d (withLuma m s) = withLuma m (pixAdd2 pl cy cx d s) := by
  cases pl <;> rfl

theorem noiseInject_withLuma (c : Config) (m : Memory 8) (s : State) (pl : Chroma) (cy cx : Nat) :
    noiseInject c pl cy cx (withLuma m s) = withLuma m (noiseInject c pl cy cx s) := by
  unfold noiseInject
  rw [pixAdd2_withLuma, apply_ite (withLuma m)]
  rfl

theorem flareCont_withLuma (c : Config) (m : Memory 8) (s : State) (pl : Chroma) (cy cx : Nat) :
    flareCont c pl cy cx (withLuma m s) = withLuma m (flareCont c pl cy cx s) := by
  unfold flareCont
  rw [pixAdd2_withLuma, pixAdd2_withLuma, apply_ite (withLuma m)]
  rfl

theorem flareIgnite_withLuma (c : Config) (m : Memory 8) (s : State) (pl : Chroma) (cy cx : Nat) (ui : Word) :
    flareIgnite c pl cy cx ui (withLuma m s) = withLuma m (flareIgnite c pl cy cx ui s) := by
  unfold flareIgnite
  rw [chromaAt_withLuma]
  rfl

theorem ignStep_withLuma (c : Config) (m : Memory 8) (s : State) (pl : Chroma) (cy cx : Nat) (e : Int) :
    ignStep c pl cy cx e (withLuma m s) = withLuma m (ignStep c pl cy cx e s) := by
  have hdraw : (rngUnif c (rngUnif c (withLuma m s)).2).2 = withLuma m (rngUnif c (rngUnif c s).2).2 := rfl
  unfold ignStep
  rw [apply_ite (withLuma m)]
  simp only [hdraw, chromaDiff_withLuma, flareIgnite_withLuma]
  rfl

/-- A column step at another luma memory, provided its edge value is the same there. -/
theorem column_withLuma {c : Config} {m : Memory 8} {s : State} {cy cx : Nat} (pl : Chroma)
    (h : edgeValue c (withLuma m s) cy cx = edgeValue c s cy cx) :
    column c pl cy cx (withLuma m s) = withLuma m (column c pl cy cx s) := by
  have hf := frame_noiseInject c pl cy cx s
  have he : edgeValue c (withLuma m (noiseInject c pl cy cx s)) cy cx =
      edgeValue c (noiseInject c pl cy cx s) cy cx := by
    rw [edgeValue_of_engineFrame (engineFrame_withLuma hf m), edgeValue_of_engineFrame hf, h]
  unfold column
  simp only [noiseInject_withLuma, flareCont_withLuma, ignStep_withLuma, he]
  rw [apply_ite (withLuma m)]
  rfl

/-- The second state is the first with the luma memory `m`, under which no column's edge value differs. -/
def LumaSwap (c : Config) (m : Memory 8) (s t : State) : Prop :=
  t = withLuma m s ∧
    ∀ cy cx : Nat, cy + 1 < s.ch.toNat → cx < s.cw.toNat → edgeValue c t cy cx = edgeValue c s cy cx

/-- An engine operation that commutes with the change of luma keeps the edge values equal. -/
theorem LumaSwap.of_engineFrame {c : Config} {m : Memory 8} {s s' : State} (h : LumaSwap c m s (withLuma m s))
    (hf : EngineFrame s s') : LumaSwap c m s' (withLuma m s') := by
  refine ⟨rfl, fun cy cx hcy hcx => ?_⟩
  rw [edgeValue_of_engineFrame (engineFrame_withLuma hf m), edgeValue_of_engineFrame hf]
  exact h.2 cy cx (hf.ch ▸ hcy) (hf.cw ▸ hcx)

theorem lumaSwap_traversalRel (c : Config) (m : Memory 8) : TraversalRel c (LumaSwap c m) where
  dims := by rintro s _ ⟨rfl, -⟩; exact ⟨rfl, rfl⟩
  setCy := by rintro s _ v ⟨rfl, h⟩; exact ⟨rfl, h⟩
  setPl := by rintro s _ v ⟨rfl, h⟩; exact ⟨rfl, h⟩
  setCx := by rintro s _ v ⟨rfl, h⟩; exact ⟨rfl, h⟩
  passStart := by rintro s _ ⟨rfl, h⟩; exact LumaSwap.of_engineFrame ⟨rfl, h⟩ (frame_passStart c s)
  column := by
    rintro s _ pl cy cx ⟨rfl, h⟩ hcy hcx
    rw [column_withLuma pl (h cy cx hcy hcx)]
    exact LumaSwap.of_engineFrame ⟨rfl, h⟩ (frame_column c pl cy cx s)

/-- A frame at another luma memory that gives every column the same edge value differs in that memory only. -/
theorem frame_withLuma {c : Config} {m : Memory 8} {s : State}
    (h : ∀ cy cx : Nat, cy + 1 < s.ch.toNat → cx < s.cw.toNat →
      edgeValue c (withLuma m s) cy cx = edgeValue c s cy cx) :
    frame c (withLuma m s) = withLuma m (frame c s) :=
  ((lumaSwap_traversalRel c m).frame ⟨rfl, h⟩).1

/-! ### The luma bytes an edge value reads are inside the plane -/

theorem lumaBlock_withLuma {m : Memory 8} {s : State} {y x : Nat} (h : s.AgreeOnLuma (withLuma m s))
    (hy : y + 1 < s.height.toNat) (hx : x + 1 < s.width.toNat) :
    lumaBlock (withLuma m s) y x = lumaBlock s y x := by
  have pixel {y x : Nat} (hy : y < s.height.toNat) (hx : x < s.width.toNat) :
      (withLuma m s).lumaAt y x = s.lumaAt y x := h _ (luma_pixelAddr_lt hy hx)
  have hy0 := Nat.lt_of_succ_lt hy
  have hx0 := Nat.lt_of_succ_lt hx
  unfold lumaBlock
  rw [pixel hy0 hx0, pixel hy0 hx, pixel hy hx0, pixel hy hx]

/-- A column that is not the last reads luma up to column `2 · cx + 3`, the last one reads none (R53, R162). -/
theorem edgeValue_withLuma {m : Memory 8} {s : State} {cy cx : Nat} (hw : s.width.toNat = 2 * s.cw.toNat)
    (hh : s.height.toNat = 2 * s.ch.toNat) (h : s.AgreeOnLuma (withLuma m s)) (c : Config)
    (hcy : cy + 1 < s.ch.toNat) (hcx : cx < s.cw.toNat) :
    edgeValue c (withLuma m s) cy cx = edgeValue c s cy cx := by
  by_cases hlast : cx + 1 = s.cw.toNat
  · have hlast' : cx + 1 = (withLuma m s).cw.toNat := hlast
    simp [edgeValue, ← hlast, ← hlast']
  · have hdiff : edgeDiff (withLuma m s) cy cx = edgeDiff s cy cx := by
      unfold edgeDiff
      rw [lumaBlock_withLuma h, lumaBlock_withLuma h] <;> omega
    unfold edgeValue
    rw [hdiff]
    rfl

/-! ### Chroma is read and written inside the planes -/

/-- Two states that the engine cannot tell apart inside the chroma planes: equal in everything it reads, except that
the chroma memories need only agree on the bytes of the planes. -/
structure ChromaSwap (s t : State) : Prop where
  still : EngineFrame s t
  rngCtr : t.rngCtr = s.rngCtr
  fire : t.fire = s.fire
  fireStep : t.fireStep = s.fireStep
  ign : t.ign = s.ign
  phase : t.phase = s.phase
  agree : s.AgreeOnChroma t

namespace ChromaSwap

variable {s t : State} {cy cx y x : Nat}

theorem control (h : ChromaSwap s t) (p : Param) : t.control p = s.control p := by
  unfold State.control State.getParam
  rw [h.still.params]

theorem chromaAt (h : ChromaSwap s t) (pl : Chroma) (hy : y < s.ch.toNat) (hx : x < s.cw.toNat) :
    t.chromaAt pl y x = s.chromaAt pl y x := by
  unfold State.chromaAt
  rw [pixelAddr_chroma, h.still.cw]
  exact h.agree pl _ (chroma_pixelAddr_lt pl hy hx)

theorem chromaDiff (h : ChromaSwap s t) (hy : y < s.ch.toNat) (hx : x < s.cw.toNat) :
    chromaDiff t y x = chromaDiff s y x := by
  unfold Machine.chromaDiff
  rw [h.chromaAt .cb hy hx, h.chromaAt .cr hy hx]

theorem noiseDelta (h : ChromaSwap s t) (c : Config) (cy cx : Nat) : noiseDelta c t cy cx = noiseDelta c s cy cx := by
  have hlattice : t.lattice = s.lattice := by funext i; simp only [State.lattice, h.still.nf]
  simp only [Machine.noiseDelta, noiseCoord, hlattice, h.phase, h.still.cw, h.control]

theorem flareDx (h : ChromaSwap s t) (cx : Nat) : flareDx t cx = flareDx s cx := by
  unfold Machine.flareDx
  rw [h.ign]

theorem ignTest (h : ChromaSwap s t) (c : Config) (ui uj : Word) (cdn : Nat) (e : Int) :
    ignTest c t ui uj cdn e = ignTest c s ui uj cdn e := by
  simp only [Machine.ignTest, rndFires, chromaFires, edgeFires, h.control]

/-- The same saturating add to both keeps the agreement: it reads the same byte and writes the same value. -/
theorem pixAddSat (h : ChromaSwap s t) (pl : Chroma) (d : Int) (hy : y < s.ch.toNat) (hx : x < s.cw.toNat) :
    ChromaSwap (pixAddSat pl y x d s) (pixAddSat pl y x d t) where
  still := by
    obtain ⟨⟩ := h.still
    constructor <;> simpa
  rngCtr := by simpa using h.rngCtr
  fire := by simpa using h.fire
  fireStep := by simpa using h.fireStep
  ign := by simpa using h.ign
  phase := by simpa using h.phase
  agree := by
    intro q a ha
    rw [pixAddSat_cw, pixAddSat_ch] at ha
    rw [pixAddSat_readPlane, pixAddSat_readPlane, h.chromaAt pl hy hx, h.still.cw, h.agree q a ha]

theorem pixAdd2 (h : ChromaSwap s t) (pl : Chroma) (d : Int) (hcy : cy + 1 < s.ch.toNat) (hcx : cx < s.cw.toNat) :
    ChromaSwap (pixAdd2 pl cy cx d s) (pixAdd2 pl cy cx d t) :=
  (h.pixAddSat pl d (Nat.lt_of_succ_lt hcy) hcx).pixAddSat pl d (by simpa using hcy) (by simpa using hcx)

theorem noiseInject (h : ChromaSwap s t) (c : Config) (pl : Chroma) (hcy : cy + 1 < s.ch.toNat)
    (hcx : cx < s.cw.toNat) : ChromaSwap (noiseInject c pl cy cx s) (noiseInject c pl cy cx t) := by
  unfold Machine.noiseInject
  rw [h.control, h.noiseDelta]
  split
  · exact h.pixAdd2 pl _ hcy hcx
  · exact h

theorem flareCont (h : ChromaSwap s t) (c : Config) (pl : Chroma) (hcy : cy + 1 < s.ch.toNat)
    (hcx : cx < s.cw.toNat) : ChromaSwap (flareCont c pl cy cx s) (flareCont c pl cy cx t) := by
  unfold Machine.flareCont
  rw [h.flareDx, h.fire, h.fireStep]
  split
  · exact h.pixAdd2 pl _ hcy hcx
  · have hadd := h.pixAdd2 pl s.fire.toInt hcy hcx
    exact { hadd with still := { hadd.still with }, fire := rfl }

theorem flareIgnite (h : ChromaSwap s t) (c : Config) (pl : Chroma) (ui : Word) (hcy : cy < s.ch.toNat)
    (hcx : cx < s.cw.toNat) : ChromaSwap (flareIgnite c pl cy cx ui s) (flareIgnite c pl cy cx ui t) := by
  unfold Machine.flareIgnite
  rw [h.chromaAt pl hcy hcx]
  exact { h with still := { h.still with }, fire := rfl, fireStep := rfl, ign := rfl }

/-- A draw depends on the counter and the key alone (R122). -/
theorem rngUnif (h : ChromaSwap s t) (c : Config) :
    (rngUnif c t).1 = (rngUnif c s).1 ∧ ChromaSwap (rngUnif c s).2 (rngUnif c t).2 := by
  constructor
  · simp only [Machine.rngUnif, rngNext, rngRaw, h.rngCtr, h.still.rngKey]
  · exact { h with still := { h.still with }, rngCtr := congrArg (· + 1) h.rngCtr }

theorem ignStep (h : ChromaSwap s t) (c : Config) (pl : Chroma) (e : Int) (hcy : cy < s.ch.toNat)
    (hcx : cx < s.cw.toNat) : ChromaSwap (ignStep c pl cy cx e s) (ignStep c pl cy cx e t) := by
  obtain ⟨hj, hjs⟩ := h.rngUnif c
  obtain ⟨hi, his⟩ := hjs.rngUnif c
  unfold Machine.ignStep
  simp only [hj, hi, his.ignTest, his.chromaDiff hcy hcx]
  split
  · exact his.flareIgnite c pl _ hcy hcx
  · exact his

theorem column (h : ChromaSwap s t) (c : Config) (pl : Chroma) (hcy : cy + 1 < s.ch.toNat) (hcx : cx < s.cw.toNat) :
    ChromaSwap (column c pl cy cx s) (column c pl cy cx t) := by
  have hn := h.noiseInject c pl hcy hcx
  rw [← noiseInject_ch s c pl cy cx] at hcy
  rw [← noiseInject_cw s c pl cy cx] at hcx
  unfold Machine.column
  simp only [hn.fire, edgeValue_of_engineFrame hn.still]
  split
  · exact hn.flareCont c pl hcy hcx
  · exact hn.ignStep c pl _ (Nat.lt_of_succ_lt hcy) hcx

/-- The start of a pass sets the fire registers alike and draws the same phase. -/
theorem passStart (h : ChromaSwap s t) (c : Config) : ChromaSwap (passStart c s) (passStart c t) := by
  obtain ⟨hdraw, hnext⟩ := h.rngUnif c
  exact { hnext with
    still := { hnext.still with }
    fire := rfl
    fireStep := rfl
    ign := rfl
    phase := congrArg (fun raw => BitVec.ofNat 24 (boundedOf raw c.phaseBound)) hdraw }

theorem traversalRel (c : Config) : TraversalRel c ChromaSwap where
  dims h := ⟨h.still.cw, h.still.ch⟩
  setCy _ h := { h with still := { h.still with } }
  setPl _ h := { h with still := { h.still with } }
  setCx _ h := { h with still := { h.still with } }
  passStart h := h.passStart c
  column pl _ _ h hcy hcx := h.column c pl hcy hcx

end ChromaSwap

/-! ### Chroma bytes outside the planes stay as they are -/

/-- A column step of the traversal writes inside its plane only. -/
theorem column_readPlane_outside (c : Config) (pl q : Chroma) {cy cx a : Nat} {s : State}
    (hcy : cy + 1 < s.ch.toNat) (hcx : cx < s.cw.toNat) (ha : s.cw.toNat * s.ch.toNat ≤ a) :
    (column c pl cy cx s).readPlane (.chroma q) a = s.readPlane (.chroma q) a := by
  have heven := chroma_pixelAddr_lt pl (Nat.lt_of_succ_lt hcy) hcx
  have hodd := chroma_pixelAddr_lt pl hcy hcx
  rw [pixelAddr_chroma] at heven hodd
  refine column_readPlane_other c pl cy cx s _ a ?_
  rintro ⟨-, rfl | rfl⟩ <;> omega

/-- One state, taken twice, that has the chroma dimensions of `s₀` and its byte at `a` of a plane. -/
structure KeepsByte (s₀ : State) (q : Chroma) (a : Nat) (s t : State) : Prop where
  twice : t = s
  cw : s.cw = s₀.cw
  ch : s.ch = s₀.ch
  byte : s.readPlane (.chroma q) a = s₀.readPlane (.chroma q) a

/-- An operation that writes no plane keeps the byte. -/
theorem KeepsByte.of_planes {s₀ s s' t : State} {q : Chroma} {a : Nat} (h : KeepsByte s₀ q a s t)
    (hf : EngineFrame s s') (hcb : s'.cb = s.cb) (hcr : s'.cr = s.cr) : KeepsByte s₀ q a s' s' where
  twice := rfl
  cw := hf.cw.trans h.cw
  ch := hf.ch.trans h.ch
  byte := (readPlane_congr hf.ym hcb hcr hf.epoch _ a).trans h.byte

theorem keepsByte_traversalRel (c : Config) {s₀ : State} (q : Chroma) {a : Nat}
    (ha : s₀.cw.toNat * s₀.ch.toNat ≤ a) : TraversalRel c (KeepsByte s₀ q a) where
  dims h := by rw [h.twice]; exact ⟨rfl, rfl⟩
  setCy _ h := by obtain rfl := h.twice; exact h.of_planes (by constructor <;> rfl) rfl rfl
  setPl _ h := by obtain rfl := h.twice; exact h.of_planes (by constructor <;> rfl) rfl rfl
  setCx _ h := by obtain rfl := h.twice; exact h.of_planes (frame_setCx _ _) rfl rfl
  passStart h := by obtain rfl := h.twice; exact h.of_planes (frame_passStart c _) rfl rfl
  column := by
    rintro _ t pl cy cx ⟨rfl, hcw, hch, hbyte⟩ hcy hcx
    have hf := frame_column c pl cy cx t
    have hkept := column_readPlane_outside c pl q hcy hcx (a := a) (by rwa [hcw, hch])
    exact ⟨rfl, hf.cw.trans hcw, hf.ch.trans hch, hkept.trans hbyte⟩

theorem frame_readPlane_outside (c : Config) (s : State) (q : Chroma) {a : Nat}
    (ha : s.cw.toNat * s.ch.toNat ≤ a) : (frame c s).readPlane (.chroma q) a = s.readPlane (.chroma q) a :=
  ((keepsByte_traversalRel c q ha).frame ⟨rfl, rfl, rfl, rfl⟩).byte

/-! ### The obligation -/

/-- Luma bytes outside the plane do not matter to a frame. -/
theorem frame_ignores_luma_outside {s : State} (hw : s.width.toNat = 2 * s.cw.toNat)
    (hh : s.height.toNat = 2 * s.ch.toNat) (c : Config) {m : Memory 8} (h : s.AgreeOnLuma (withLuma m s)) :
    frame c (withLuma m s) = withLuma m (frame c s) :=
  frame_withLuma fun _ _ hcy hcx => edgeValue_withLuma hw hh h c hcy hcx

/-- Chroma bytes outside the planes do not matter to a frame. -/
theorem frame_ignores_chroma_outside (c : Config) {s : State} {b r : Memory 8}
    (h : s.AgreeOnChroma { s with cb := b, cr := r }) :
    ChromaSwap (frame c s) (frame c { s with cb := b, cr := r }) :=
  (ChromaSwap.traversalRel c).frame
    { still := by constructor <;> rfl, rngCtr := rfl, fire := rfl, fireStep := rfl, ign := rfl, phase := rfl,
      agree := h }

/-- Settles O57: each part of the traversal forms addresses inside the planes only, for reading and for writing, and
the traversal keeps what its parts keep. -/
theorem engineAddressesAreInRange : Obligations.EngineAddressesAreInRange := by
  unfold Obligations.EngineAddressesAreInRange
  refine ⟨fun _ _ _ => rfl, fun s hd hi => ?_⟩
  obtain ⟨hw, hh⟩ := dims_double hd hi
  refine ⟨hw, hh, fun _ => by omega, fun _ => by omega, ?_, ?_, ?_, ?_, ?_, ?_⟩
  · intro cy cx dy dx hcy hcx hdy hdx
    exact luma_pixelAddr_lt (by omega) (by omega)
  · intro pl cy cx dy hcy hcx hdy
    exact chroma_pixelAddr_lt pl (by omega) hcx
  · intro c m h
    have hframe : frame c { s with ym := m } = withLuma m (frame c s) := frame_ignores_luma_outside hw hh c h
    rw [hframe]
    exact ⟨rfl, rfl, rfl⟩
  · intro c b r h
    have hswap := frame_ignores_chroma_outside c h
    exact ⟨hswap.agree, hswap.rngCtr⟩
  · intro c q a ha
    exact frame_readPlane_outside c s q ha
  · intro c pl q cy cx a hcy hcx ha
    exact column_readPlane_outside c pl q hcy hcx ha

end Sys2Proof.Proofs
end

section
/-! Serialisation of packets and responses (spec/30_encoding.md R79): the bytes of one word, and words laid end to end. -/

namespace Sys2Proof.Proofs

open Sys2Proof Sys2Proof.Machine Sys2Proof.Laws

/-! ### The bytes of one word -/

/-- Eight bits of a word from bit `8k` up are its digit `k` to the base 256 (R55). -/
theorem extractLsb'_byte (w : Word) (k : Nat) :
    w.extractLsb' (8 * k) 8 = BitVec.ofNat 8 (w.toNat / 256 ^ k) := by
  rw [BitVec.extractLsb', Nat.shiftRight_eq_div_pow, Nat.pow_mul]

@[simp] theorem wordBytes_length (w : Word) : (wordBytes w).length = 4 := rfl

/-- Byte `k` of a word is its digit `k` to the base 256 (R79). -/
theorem wordBytes_getElem? (w : Word) {k : Nat} (hk : k < 4) :
    (wordBytes w)[k]? = some (BitVec.ofNat 8 (w.toNat / 256 ^ k)) := by
  rw [← extractLsb'_byte]
  match k, hk with
  | 0, _ | 1, _ | 2, _ | 3, _ => rfl

/-! ### Words laid end to end -/

theorem wordBytes_append_getElem? (w : Word) (l : List Byte) {k : Nat} (hk : k < 4) :
    (wordBytes w ++ l)[k]? = some (BitVec.ofNat 8 (w.toNat / 256 ^ k)) := by
  rw [List.getElem?_append_left hk, wordBytes_getElem? w hk]

/-- Behind the four bytes of a word stands what follows it. -/
theorem wordBytes_append_getElem?_four_add (w : Word) (l : List Byte) (n : Nat) :
    (wordBytes w ++ l)[4 + n]? = l[n]? := by
  rw [List.getElem?_append_right (by simp), wordBytes_length, Nat.add_sub_cancel_left]

/-! ### Packets and responses -/

@[simp] theorem packet_toBytes_length (p : Packet) : p.toBytes.length = 16 := rfl

@[simp] theorem response_toBytes_length (r : Response) : r.toBytes.length = 8 := rfl

/-- A packet is read back from its bytes, each of its words being read back from its own four (R79). -/
theorem packet_ofBytes_toBytes (p : Packet) : Packet.ofBytes p.toBytes = some p := by
  simp [Packet.toBytes, Packet.ofBytes, wordBytes, wordOfBytes_wordBytes]

/-- The bytes of each word of a packet, `W0` first (R79). -/
theorem packet_toBytes_getElem? (p : Packet) {k : Nat} (hk : k < 4) :
    p.toBytes[k]? = some (BitVec.ofNat 8 (p.w0.toNat / 256 ^ k)) ∧
    p.toBytes[4 + k]? = some (BitVec.ofNat 8 (p.w1.toNat / 256 ^ k)) ∧
    p.toBytes[8 + k]? = some (BitVec.ofNat 8 (p.w2.toNat / 256 ^ k)) ∧
    p.toBytes[12 + k]? = some (BitVec.ofNat 8 (p.w3.toNat / 256 ^ k)) := by
  have h8 : 8 + k = 4 + (4 + k) := by omega
  have h12 : 12 + k = 4 + (4 + (4 + k)) := by omega
  rw [Packet.toBytes, List.append_assoc, List.append_assoc, h8, h12]
  simp only [wordBytes_append_getElem?_four_add]
  exact ⟨wordBytes_append_getElem? p.w0 _ hk, wordBytes_append_getElem? p.w1 _ hk,
    wordBytes_append_getElem? p.w2 _ hk, wordBytes_getElem? p.w3 hk⟩

/-- The bytes of the two words of a response, `R0` first (R79). -/
theorem response_toBytes_getElem? (r : Response) {k : Nat} (hk : k < 4) :
    r.toBytes[k]? = some (BitVec.ofNat 8 (r.r0.toNat / 256 ^ k)) ∧
    r.toBytes[4 + k]? = some (BitVec.ofNat 8 (r.r1.toNat / 256 ^ k)) := by
  rw [Response.toBytes, wordBytes_append_getElem?_four_add]
  exact ⟨wordBytes_append_getElem? r.r0 _ hk, wordBytes_getElem? r.r1 hk⟩

/-- Settles O5: packets and responses are words laid end to end, so each statement comes down to the bytes of one
word. -/
theorem packetsSerialiseLittleEndian : Obligations.PacketsSerialiseLittleEndian := by
  unfold Obligations.PacketsSerialiseLittleEndian
  refine ⟨fun p => ⟨packet_toBytes_length p, packet_ofBytes_toBytes p, fun _ => packet_toBytes_getElem? p⟩,
    fun r => ⟨response_toBytes_length r, fun _ => response_toBytes_getElem? r⟩, ?_⟩
  decide

end Sys2Proof.Proofs
end

section
/-! The noise field (spec/40_noise_field.md): the table the write loop of `NF.BUILD` leaves, the smoothstep, and the
size and the truncation of a sample. -/

namespace Sys2Proof.Proofs

open Sys2Proof Sys2Proof.Machine Sys2Proof.Laws

/-! ### The write loop of NF.BUILD (R101) -/

/-- Entry `k` of a run of lattice draws is the draw `k + 1` steps of the counter further. -/
theorem read_latticeFrom (c : Config) {n k : Nat} (i : Nat) (ctr : Word) (hk : k < n) :
    Memory.read (latticeFrom c n i ctr) (i + k) = some (mixAt c (ctr + BitVec.ofNat 32 (k + 1)) c.noiseKey) := by
  induction n generalizing i k ctr with
  | zero => omega
  | succ n ih =>
    cases k with
    | zero => simp [latticeFrom, Memory.read]
    | succ k =>
      have hne : i + (k + 1) ≠ i := by omega
      have hctr : ctr + BitVec.ofNat 32 (k + 1 + 1) = ctr + 1 + BitVec.ofNat 32 (k + 1) := by
        rw [BitVec.add_assoc, Nat.add_comm (k + 1) 1, BitVec.ofNat_add]; rfl
      rw [latticeFrom, Memory.read, if_neg hne, hctr, show i + (k + 1) = i + 1 + k by omega]
      exact ih _ _ (by omega)

/-- A run of lattice draws lists nothing below its first index. -/
theorem read_latticeFrom_below (c : Config) (n : Nat) {i a : Nat} (ctr : Word) (ha : a < i) :
    Memory.read (latticeFrom c n i ctr) a = none :=
  Option.eq_none_iff_forall_not_mem.2 fun v hv => by
    have := (latticeFrom_addr (mem_of_read hv)).1
    omega

/-- The entries of the table in closed form (R101). -/
theorem read_latticeTable (c : Config) {i : Nat} (hi : i < c.noiseLen) :
    Memory.read (latticeTable c) i = some (mixAt c (c.noiseCtr0 + BitVec.ofNat 32 (i + 1)) c.noiseKey) := by
  simpa [latticeTable] using read_latticeFrom c 0 c.noiseCtr0 hi

theorem buildLoop_wf (c : Config) (n i : Nat) (ctr : Word) {m : Memory 32} (hm : m.wf) :
    (buildLoop c n i ctr m).wf := by
  induction n generalizing i ctr m with
  | zero => exact hm
  | succ n ih => exact ih _ _ (write_wf hm _ _)

/-- The loop overlays the run of draws on what the memory held. -/
theorem read_buildLoop (c : Config) (n i : Nat) (ctr : Word) (m : Memory 32) (a : Nat) :
    Memory.read (buildLoop c n i ctr m) a = (Memory.read (latticeFrom c n i ctr) a).or (Memory.read m a) := by
  induction n generalizing i ctr m with
  | zero => rfl
  | succ n ih =>
    rw [buildLoop, ih, read_write, latticeFrom, Memory.read]
    split
    · subst_vars
      rw [read_latticeFrom_below c n _ (Nat.lt_succ_self _)]; rfl
    · rfl

/-- Over a memory that lists only lattice indices the loop leaves the table alone: it writes every index, so nothing of
what the memory held stays. -/
theorem buildLoop_eq_latticeTable (c : Config) {m : Memory 32} (hm : m.wf) (hb : ∀ e ∈ m, e.1 < c.noiseLen) :
    buildLoop c c.noiseLen 0 c.noiseCtr0 m = latticeTable c := by
  refine ext_of_read (buildLoop_wf c _ _ _ hm) (latticeTable_wf c) fun a => ?_
  rw [read_buildLoop, ← latticeTable]
  by_cases ha : a < c.noiseLen
  · rw [read_latticeTable c ha]; rfl
  · have hnone : Memory.read m a = none :=
      Option.eq_none_iff_forall_not_mem.2 fun v hv => ha (hb _ (mem_of_read hv))
    rw [hnone, Option.or_none]

/-- Settles O13: the loop overlays the table on the memory and the table covers every index; the worked entries are the
closed form at five indices. -/
theorem latticeIsTheWriteLoop : Obligations.LatticeIsTheWriteLoop := by
  unfold Obligations.LatticeIsTheWriteLoop
  refine ⟨fun c m => buildLoop_eq_latticeTable c, fun c i => read_latticeTable c, fun _ _ => rfl,
    ?_, ?_, ?_, ?_, ?_⟩ <;>
    exact (read_latticeTable fse (by decide)).trans (by decide)

/-! ### The smoothstep (R103) -/

@[simp] theorem smoothstep_zero (sh : Nat) : smoothstep sh 0 = 0 := by simp [smoothstep]

/-- No subtraction of the smoothstep is cut off: `2·tn³ ≤ 3·tn²·2^sh`. -/
theorem smoothstep_cast {sh tn : Nat} (h : tn < 2 ^ sh) :
    (smoothstep sh tn : Int) = 3 * (tn : Int) ^ 2 * 2 ^ sh - 2 * (tn : Int) ^ 3 := by
  have hle : 2 * tn ^ 3 ≤ 3 * tn ^ 2 * 2 ^ sh := by
    calc 2 * tn ^ 3 = 2 * tn ^ 2 * tn := by ring
      _ ≤ 3 * tn ^ 2 * 2 ^ sh := Nat.mul_le_mul (by omega) h.le
  rw [smoothstep, Nat.cast_sub hle]
  push_cast
  ring

/-- The smoothstep is below 1: with `E = 2^sh`, `E³ − 3·tn²·E + 2·tn³ = (E − tn)²·(E + 2·tn)`. -/
theorem smoothstep_lt_sampleDen {sh tn : Nat} (h : tn < 2 ^ sh) : smoothstep sh tn < sampleDen sh := by
  have hE : (tn : Int) < 2 ^ sh := by exact_mod_cast h
  have hden : (sampleDen sh : Int) = (2 ^ sh) ^ 3 := by
    rw [sampleDen, Nat.mul_comm, Nat.pow_mul]; push_cast; rfl
  have hpos : (0 : Int) < (2 ^ sh - tn) ^ 2 * (2 ^ sh + 2 * tn) :=
    mul_pos (pow_pos (by omega) 2) (by omega)
  zify
  rw [smoothstep_cast h, hden]
  linear_combination hpos

/-- The smoothstep increases: with `E = 2^sh`, the difference of two values is
`(un − tn)·(3·(E − un)·(un + tn) + (un − tn)·(un + 2·tn))`. -/
theorem smoothstep_lt_smoothstep {sh tn un : Nat} (htu : tn < un) (hu : un < 2 ^ sh) :
    smoothstep sh tn < smoothstep sh un := by
  have hE : (un : Int) < 2 ^ sh := by exact_mod_cast hu
  have hpos : (0 : Int) < (un - tn) * (3 * (2 ^ sh - un) * (un + tn) + (un - tn) * (un + 2 * tn)) := by
    have h1 : (0 : Int) < un - tn := by omega
    have h2 : (0 : Int) < 2 ^ sh - un := by omega
    have h3 : (0 : Int) < un + tn := by omega
    positivity
  zify
  rw [smoothstep_cast (htu.trans hu), smoothstep_cast hu]
  linear_combination hpos

/-- Settles O30: the bound and the monotonicity are factorisations of differences of cubics; the values are computed. -/
theorem smoothstepIsExactAndBelowOne : Obligations.SmoothstepIsExactAndBelowOne := by
  unfold Obligations.SmoothstepIsExactAndBelowOne
  exact ⟨fun _ _ h => ⟨smoothstep_cast h, smoothstep_lt_sampleDen h⟩, smoothstep_zero,
    fun _ _ _ => smoothstep_lt_smoothstep, by decide⟩

/-! ### The size of a sample and its truncation (R104 to R106) -/

/-- A weighted mean of two numbers below a bound, the second weight below the whole, is below the bound. -/
theorem weighted_mean_lt {a b W D w : Nat} (ha : a < W) (hb : b < W) (hw : w < D) :
    a * (D - w) + b * w < D * W :=
  calc a * (D - w) + b * w < W * (D - w) + W * w :=
        Nat.add_lt_add_of_lt_of_le (Nat.mul_lt_mul_of_pos_right ha (by omega)) (Nat.mul_le_mul_right w hb.le)
    _ = D * W := by rw [← Nat.mul_add, Nat.sub_add_cancel hw.le, Nat.mul_comm]

/-- The interpolated value is a weighted mean of two lattice words, so it is below 1 (R104). -/
theorem sampleNum_lt (c : Config) (L : Nat → Word) (coord sh : Nat) :
    sampleNum c L coord sh < sampleDen sh * 2 ^ 32 :=
  weighted_mean_lt (L _).isLt (L _).isLt (smoothstep_lt_sampleDen (Nat.mod_lt coord (Nat.two_pow_pos sh)))

/-- `truncz` divides the size (R10). -/
theorem natAbs_truncz (a : Int) (b : Nat) : (truncz a b).natAbs = a.natAbs / b := by
  rw [truncz_eq_tdiv, Int.natAbs_tdiv]; rfl

theorem truncz_neg (a : Int) (b : Nat) : truncz (-a) b = -truncz a b := by
  rw [truncz_eq_tdiv, truncz_eq_tdiv, Int.neg_tdiv]

theorem truncz_natCast (n b : Nat) : truncz n b = (n / b : Nat) := by simp [truncz]

/-- Truncation toward zero composes (R106). -/
theorem truncz_truncz (a : Int) (b d : Nat) : truncz (truncz a b) d = truncz a (b * d) := by
  obtain ⟨n, rfl | rfl⟩ := a.eq_nat_or_neg
  · simp only [truncz_natCast, Nat.div_div_eq_div_mul]
  · simp only [truncz_neg, truncz_natCast, Nat.div_div_eq_div_mul]

/-- A fraction below 1 of a number other than 0 is smaller in size, truncated (R105). -/
theorem natAbs_truncz_mul_lt {v d : Nat} {a : Int} (hv : v < d) (ha : a ≠ 0) :
    (truncz (v * a) d).natAbs < a.natAbs := by
  rw [natAbs_truncz, Int.natAbs_mul, Int.natAbs_natCast]
  exact Nat.div_lt_of_lt_mul (Nat.mul_lt_mul_of_pos_right hv (Int.natAbs_pos.2 ha))

/-- The `NFSAMPLE` result is smaller in size than the amplitude, or both are 0 (R106). -/
theorem sampleQ16_bound (c : Config) (L : Nat → Word) (coord sh : Nat) (an : Int) :
    (sampleQ16 c L coord an sh).natAbs < an.natAbs ∨ an = 0 ∧ sampleQ16 c L coord an sh = 0 := by
  by_cases ha : an = 0
  · subst ha
    exact .inr ⟨rfl, by simp [sampleQ16, truncz]⟩
  · exact .inl (natAbs_truncz_mul_lt (sampleNum_lt c L coord sh) ha)

/-- Settles O32: the sample is a fraction below 1 of the amplitude, and truncation toward zero composes. -/
theorem sampleFitsTheResultWord : Obligations.SampleFitsTheResultWord := by
  unfold Obligations.SampleFitsTheResultWord
  intro c L coord sh an hlo hhi
  have hbound := sampleQ16_bound c L coord sh an
  refine ⟨rfl, ?_, BitVec.toInt_ofInt_eq_self (by omega) (by omega) (by omega), ?_⟩
  · rw [Int.abs_eq_natAbs, Int.abs_eq_natAbs]; omega
  · rw [sampleQ16, truncz_truncz, Nat.mul_assoc, ← Nat.pow_add, sampleDen]

end Sys2Proof.Proofs
end

section
/-! The pseudo-random stream (spec/41_prng.md): the mixing function as a bijection, the counter after any number of
draws, and the bounded draw. -/

namespace Sys2Proof.Proofs

open Sys2Proof Sys2Proof.Machine Sys2Proof.Laws

/-! ### The mixing function (R121) -/

/-- The shifting step of `fmix32`: a word xor itself, shifted to the right. -/
def xorShift (k : Nat) (h : Word) : Word := h ^^^ (h >>> k)

/-- The operations of R121: three shifting steps, and between them two multiplications. -/
theorem fmix32_eq :
    fmix32 = xorShift 16 ∘ (· * 0xC2B2AE35) ∘ xorShift 13 ∘ (· * 0x85EBCA6B) ∘ xorShift 16 := rfl

/-- Shifting is linear over xor, so the two middle terms cancel: the same step twice is one step twice as far. -/
theorem xorShift_comp_self (k : Nat) : xorShift k ∘ xorShift k = xorShift (k + k) := by
  funext h
  simp only [xorShift, Function.comp_apply, BitVec.ushiftRight_xor_distrib, BitVec.shiftRight_add]
  rw [BitVec.xor_assoc, ← BitVec.xor_assoc (h >>> k) (h >>> k), BitVec.xor_self, BitVec.zero_xor]

theorem xorShift_of_le {k : Nat} (hk : 32 ≤ k) : xorShift k = id := by
  funext h
  simp [xorShift, BitVec.ushiftRight_eq_zero hk]

/-- A step is a bijection when the step twice as far is one. -/
theorem xorShift_bijective_of_double {k : Nat} (h : Function.Bijective (xorShift (k + k))) :
    Function.Bijective (xorShift k) := by
  rw [← xorShift_comp_self] at h
  exact ⟨h.1.of_comp, h.2.of_comp⟩

theorem xorShift_bijective_of_le {k : Nat} (hk : 32 ≤ k + k) : Function.Bijective (xorShift k) :=
  xorShift_bijective_of_double (xorShift_of_le hk ▸ Function.bijective_id)

/-- Multiplying by a word that has an inverse modulo 2^32 is a bijection. -/
theorem mul_bijective_of_inverse {a b : Word} (h : a * b = 1) : Function.Bijective (· * a : Word → Word) :=
  IsUnit.isUnit_iff_mulRight_bijective.1 (IsUnit.of_mul_eq_one b h)

/-- `fmix32` is a bijection because each of its operations is one. -/
theorem fmix32_bijective : Function.Bijective fmix32 := by
  have h16 : Function.Bijective (xorShift 16) := xorShift_bijective_of_le (by decide)
  have h13 : Function.Bijective (xorShift 13) := xorShift_bijective_of_double (xorShift_bijective_of_le (by decide))
  have hmul1 : Function.Bijective (· * 0x85EBCA6B : Word → Word) :=
    mul_bijective_of_inverse (b := 0xA5CB9243) (by decide)
  have hmul2 : Function.Bijective (· * 0xC2B2AE35 : Word → Word) :=
    mul_bijective_of_inverse (b := 0x7ED1B41D) (by decide)
  rw [fmix32_eq]
  exact h16.comp (hmul2.comp (h13.comp (hmul1.comp h16)))

/-- Settles O29: the function is the rule's operations by definition, each of them is a bijection, and the values are
computed. -/
theorem mixIsABijection : Obligations.MixIsABijection := by
  unfold Obligations.MixIsABijection
  refine ⟨fun h => ⟨_, _, _, _, rfl, rfl, rfl, rfl, rfl, ?_⟩, fun _ => rfl, fmix32_bijective, by decide⟩
  rintro rfl
  decide

/-! ### The counter after any number of draws (R122) -/

/-- `n` draws add `n` to the counter, modulo 2^32, and change nothing else. -/
theorem rngAdvance_iterate (n : Nat) (s : State) :
    rngAdvance^[n] s = { s with rngCtr := s.rngCtr + BitVec.ofNat 32 n } := by
  induction n with
  | zero => simp
  | succ n ih =>
    rw [Function.iterate_succ_apply', ih, BitVec.ofNat_add, ← BitVec.add_assoc]
    rfl

/-- The raw draw that follows `n` draws, from any counter and key. -/
theorem rngRaw_iterate (c : Config) (n : Nat) (s : State) :
    rngRaw c (rngAdvance^[n] s) = c.rngMix ((s.rngCtr + BitVec.ofNat 32 (n + 1)) ^^^ s.rngKey) := by
  rw [rngAdvance_iterate, BitVec.ofNat_add, ← BitVec.add_assoc]
  rfl

/-- Settles O28: the counter in closed form gives the n-th draw and the period; the worked draws are its values. -/
theorem nthDrawAfterSeeding : Obligations.NthDrawAfterSeeding := by
  unfold Obligations.NthDrawAfterSeeding
  refine ⟨fun _ _ => rfl, fun c s n => rngRaw_iterate c n _, ?wrap, ?period, ?draws, ?counter⟩
  case wrap =>
    intro c s hctr
    have hzero : s.rngCtr + 1 = 0 := by rw [hctr]; rfl
    have hkey : 0 ^^^ s.rngKey = s.rngKey := BitVec.zero_xor
    rw [rngNext, rngRaw, rngAdvance, mixAt, hzero, hkey]
  case period =>
    intro s
    have hwrap : s.rngCtr + BitVec.ofNat 32 (2 ^ 32) = s.rngCtr := BitVec.add_zero _
    rw [rngAdvance_iterate, hwrap]
  case draws =>
    intro s
    simp only [rngRaw_iterate, rngSeed_rngCtr, rngSeed_rngKey]
    decide
  case counter =>
    intro s
    rw [rngAdvance_iterate]
    rfl

/-! ### The bounded draw (R125) -/

/-- A raw draw is below 2^32, so its share of the bound is below the bound. -/
theorem boundedOf_lt (raw : Word) {n : Nat} (hn : 1 ≤ n) : boundedOf raw n < n :=
  Nat.div_lt_of_lt_mul (Nat.mul_lt_mul_of_pos_right raw.isLt hn)

@[simp] theorem boundedOf_zero (raw : Word) : boundedOf raw 0 = 0 := by simp [boundedOf]

/-- The bound `2^k` cancels against the divisor: the top `k` bits of the raw draw are left. -/
theorem boundedOf_two_pow (raw : Word) {k : Nat} (hk : k < 32) :
    boundedOf raw (2 ^ k) = (raw >>> (32 - k)).toNat := by
  have hsplit : 2 ^ 32 = 2 ^ (32 - k) * 2 ^ k := by rw [← Nat.pow_add, Nat.sub_add_cancel hk.le]
  rw [boundedOf, hsplit, Nat.mul_div_mul_right _ _ (Nat.two_pow_pos k), BitVec.toNat_ushiftRight,
    Nat.shiftRight_eq_div_pow]

/-- Settles O27: a bounded draw is one draw and its share of the bound; the values are computed. -/
theorem boundedDrawIsBelowTheBound : Obligations.BoundedDrawIsBelowTheBound := by
  unfold Obligations.BoundedDrawIsBelowTheBound
  refine ⟨fun c n s => ⟨rfl, rfl, boundedOf_lt _, ?_⟩, fun raw _ => boundedOf_two_pow raw,
    fun raw n => Nat.mul_lt_mul'' (c := 2 ^ 32) (d := 2 ^ 32) raw.isLt n.isLt, by decide⟩
  rintro rfl
  exact boundedOf_zero _

end Sys2Proof.Proofs
end

section
/-! How many draws one frame makes (spec/41_prng.md R127): each part of the traversal makes its full number of draws,
less two for each column that continues a flare. -/

namespace Sys2Proof.Proofs

open Sys2Proof Sys2Proof.Machine Sys2Proof.Laws

/-- The counter of `t` is that of `s` after `total` draws less `spared`. -/
def Draws (spared total : Nat) (s t : State) : Prop :=
  ∃ draws, draws + spared = total ∧ t.rngCtr = s.rngCtr + BitVec.ofNat 32 draws

namespace Draws

variable {s s' t u : State} {a b m n : Nat}

theorem rfl (s : State) : Draws 0 0 s s := ⟨0, by simp⟩

theorem trans (h : Draws a m s t) (k : Draws b n t u) : Draws (a + b) (m + n) s u := by
  obtain ⟨d, hd, ht⟩ := h
  obtain ⟨e, he, hu⟩ := k
  exact ⟨d + e, by omega, by rw [hu, ht, BitVec.ofNat_add, BitVec.add_assoc]⟩

end Draws

/-- A column step makes two draws, and neither when it continues a flare (R126, R195). -/
theorem draws_column (c : Config) (pl : Chroma) (cy cx : Nat) (s : State) :
    Draws (2 * if (c.fireMin : Int) ≤ s.fire.toInt then 1 else 0) 2 s (column c pl cy cx s) := by
  rcases column_cases c pl cy cx s with ⟨hfire, hcol⟩ | ⟨hfire, hcol⟩ <;> rw [hcol]
  · exact ⟨0, by simp [hfire], by simp⟩
  · refine ⟨2, by simp [hfire], ?_⟩
    rcases ignStep_cases c pl cy cx (edgeValue c (noiseInject c pl cy cx s) cy cx) (noiseInject c pl cy cx s)
      with h | h <;> rw [h] <;> simp [BitVec.add_assoc]

/-- One column more, counted by the branch it takes. -/
theorem continuations_succ (c : Config) (pl : Chroma) (cy n : Nat) (s : State) :
    continuations c pl cy (n + 1) s =
      continuations c pl cy n s + if (c.fireMin : Int) ≤ (columns c pl cy n s).fire.toInt then 1 else 0 := by
  simp only [continuations, ← List.countP_eq_length_filter, List.range_succ, List.countP_append,
    List.countP_singleton, decide_eq_true_eq]

theorem draws_columns (c : Config) (pl : Chroma) (cy n : Nat) (s : State) :
    Draws (2 * continuations c pl cy n s) (2 * n) s (columns c pl cy n s) := by
  induction n with
  | zero => exact .rfl s
  | succ n ih =>
    have hcol := draws_column c pl cy n { columns c pl cy n s with cx := BitVec.ofNat 11 n }
    rw [columns_succ, continuations_succ, Nat.mul_add]
    exact ih.trans hcol

/-- A pass makes the phase draw and the draws of its columns (R194). -/
theorem draws_pass (c : Config) (pl : Chroma) (cy : Nat) (s : State) :
    Draws (2 * passContinuations c pl cy s) (1 + 2 * s.cw.toNat) s (pass c pl cy s) := by
  have hstart : Draws 0 1 s (passStart c { s with pl := pl }) := ⟨1, by simp⟩
  rw [← Nat.zero_add (2 * passContinuations c pl cy s)]
  exact hstart.trans (draws_columns c pl cy s.cw.toNat _)

/-- The continuation columns of the two passes of a scanline-pair. -/
def rowPairContinuations (c : Config) (cy : Nat) (s : State) : Nat :=
  passContinuations c .cb cy { s with cy := BitVec.ofNat 11 cy } +
    passContinuations c .cr cy (pass c .cb cy { s with cy := BitVec.ofNat 11 cy })

theorem draws_rowPair (c : Config) (cy : Nat) (s : State) :
    Draws (2 * rowPairContinuations c cy s) (2 * (1 + 2 * s.cw.toNat)) s (rowPair c cy s) := by
  have hcb := draws_pass c .cb cy { s with cy := BitVec.ofNat 11 cy }
  have hcr := draws_pass c .cr cy (pass c .cb cy { s with cy := BitVec.ofNat 11 cy })
  rw [(frame_pass c .cb cy _).cw] at hcr
  have hboth := hcb.trans hcr
  rw [← Nat.mul_add, ← Nat.two_mul] at hboth
  exact hboth

/-- The continuation columns of the first `n` scanline-pairs. -/
def rowPairsContinuations (c : Config) (n : Nat) (s : State) : Nat :=
  ((List.range n).map fun k => rowPairContinuations c (2 * k) (rowPairs c k s)).sum

theorem rowPairsContinuations_succ (c : Config) (n : Nat) (s : State) :
    rowPairsContinuations c (n + 1) s =
      rowPairsContinuations c n s + rowPairContinuations c (2 * n) (rowPairs c n s) := by
  simp [rowPairsContinuations, List.range_succ]

theorem frameContinuations_eq (c : Config) (s : State) :
    frameContinuations c s = rowPairsContinuations c (pairCount s.ch.toNat) { s with cy := 0 } := rfl

theorem draws_rowPairs (c : Config) (n : Nat) (s : State) :
    Draws (2 * rowPairsContinuations c n s) (2 * n * (1 + 2 * s.cw.toNat)) s (rowPairs c n s) := by
  induction n with
  | zero => exact ⟨0, by simp [rowPairsContinuations], by simp [rowPairs_zero]⟩
  | succ n ih =>
    have hrow := draws_rowPair c (2 * n) (rowPairs c n s)
    rw [(frame_rowPairs c n s).cw] at hrow
    rw [rowPairs_succ, rowPairsContinuations_succ, Nat.mul_add, Nat.mul_succ 2 n, Nat.add_mul]
    exact ih.trans hrow

/-- R127: `2 · floor(CH / 2)` passes of `1 + 2 · CW` draws, less two for each continuation column. -/
theorem draws_frame (c : Config) (s : State) :
    Draws (2 * frameContinuations c s) (2 * pairCount s.ch.toNat * (1 + 2 * s.cw.toNat)) s (frame c s) :=
  draws_rowPairs c (pairCount s.ch.toNat) { s with cy := 0 }

/-- Settles O54: the draws of the traversal's parts add up; `floor(CH / 2)` is the number of scanline-pairs of R127. -/
theorem drawCountOfOneFrame : Obligations.DrawCountOfOneFrame := by
  unfold Obligations.DrawCountOfOneFrame
  refine ⟨fun c s => ?_, fun c s hcw hch hnone => ?_⟩
  · obtain ⟨draws, hdraws, hctr⟩ := draws_frame c s
    have hpairs : pairCount s.ch.toNat = s.ch.toNat / 2 := rfl
    exact ⟨2 * pairCount s.ch.toNat, draws, by omega, by omega, hdraws, hctr⟩
  · obtain ⟨draws, hdraws, hctr⟩ := draws_frame c s
    rw [hnone, hcw, hch] at hdraws
    obtain rfl : draws = 2080 := hdraws
    exact hctr

end Sys2Proof.Proofs
end

section
/-! The parameter model and the ignition test (spec/42_params.md, spec/43_detectors.md): the thresholds at a control of 0,
and why none of the three comparators can then fire (R149). -/

namespace Sys2Proof.Proofs

open Sys2Proof Sys2Proof.Machine Sys2Proof.Laws

/-! ### The thresholds at a control of 0 (R143 to R145) -/

@[simp] theorem thrRnd_zero (c : Config) : thrRnd c 0 = 2 ^ 48 := by simp [thrRnd]

@[simp] theorem thrLuma_zero (c : Config) : thrLuma c 0 = 2 ^ 48 := by simp [thrLuma]

@[simp] theorem thrChroma_zero (c : Config) : thrChroma c 0 = 2 ^ 48 := by simp [thrChroma]

/-! ### The comparators at a control of 0 (R149) -/

theorem control_eq_zero {s : State} {p : Param} (h : s.getParam p = 0) : s.control p = 0 := by
  simp [State.control, s32, h]

/-- R148: without a positive edge control the edge value is not computed. -/
theorem edgeValue_of_control_nonpos {s : State} (h : s.control .edge ≤ 0) (c : Config) (cy cx : Nat) :
    edgeValue c s cy cx = 0 := if_neg fun hpos => absurd hpos.1 (not_lt.mpr h)

/-- The ignition draw is below 1. -/
theorem rndFires_of_control_zero {s : State} (h : s.control .rnd = 0) (c : Config) (ui : Word) :
    rndFires c s ui = false := by
  have hdraw := ui.isLt
  rw [rndFires, h, thrRnd_zero, decide_eq_false_iff_not]
  omega

/-- The chroma divergence is at most 255/256 and the jitter is never negative. -/
theorem chromaFires_of_control_zero {c : Config} {s : State} {cdn : Nat} (hnorm : c.chromaNormLog2 = 8)
    (h : s.control .sat = 0) (hcdn : cdn ≤ 255) (uj : Word) : chromaFires c s uj cdn = false := by
  have hjitter := jitter_nonneg c uj
  rw [chromaFires, h, thrChroma_zero, hnorm, decide_eq_false_iff_not]
  omega

/-- An edge value of 0 stays below a threshold of 1, as the jitter is never negative. -/
theorem edgeFires_of_control_zero {s : State} (h : s.control .edge = 0) (c : Config) (uj : Word) :
    edgeFires c s uj 0 = false := by
  have hjitter := jitter_nonneg c uj
  rw [edgeFires, h, thrLuma_zero, zero_mul, decide_eq_false_iff_not]
  omega

theorem ignTest_of_controls_zero {c : Config} {s : State} (hnorm : c.chromaNormLog2 = 8) (hrnd : s.control .rnd = 0)
    (hedge : s.control .edge = 0) (hsat : s.control .sat = 0) (ui uj : Word) (cy cx : Nat) :
    ignTest c s ui uj (chromaDiff s cy cx) 0 = false := by
  rw [ignTest, rndFires_of_control_zero hrnd, chromaFires_of_control_zero hnorm hsat (chromaDiff_le s cy cx),
    edgeFires_of_control_zero hedge]
  rfl

/-! ### The ignition step -/

/-- R188: the test of the ignition step reads the state before the step, as a draw moves nothing but the counter. -/
theorem ignStep_eq (c : Config) (pl : Chroma) (cy cx : Nat) (e : Int) (s : State) :
    ignStep c pl cy cx e s =
      if ignTest c s (rngRaw c (rngAdvance s)) (rngRaw c s) (chromaDiff s cy cx) e then
        flareIgnite c pl cy cx (rngRaw c (rngAdvance s)) (rngAdvance (rngAdvance s))
      else rngAdvance (rngAdvance s) := rfl

theorem rngAdvance_rngAdvance (s : State) : rngAdvance (rngAdvance s) = { s with rngCtr := s.rngCtr + 2 } := by
  simp [rngAdvance, BitVec.add_assoc]

/-- R149: the ignition step ignites nothing, and still makes its two draws (R126). -/
theorem ignStep_of_controls_zero {c : Config} {s : State} (hnorm : c.chromaNormLog2 = 8) (hrnd : s.control .rnd = 0)
    (hedge : s.control .edge = 0) (hsat : s.control .sat = 0) (pl : Chroma) (cy cx : Nat) :
    ignStep c pl cy cx 0 s = { s with rngCtr := s.rngCtr + 2 } := by
  rw [ignStep_eq, ignTest_of_controls_zero hnorm hrnd hedge hsat, if_neg Bool.false_ne_true, rngAdvance_rngAdvance]

/-! ### The obligation -/

/-- Settles O42: each threshold is 1, which neither the draw, nor the chroma divergence, nor the edge value exceeds. -/
theorem zeroControlsNeverIgnite : Obligations.ZeroControlsNeverIgnite := by
  unfold Obligations.ZeroControlsNeverIgnite
  intro c hc s hrnd hedge hsat
  have hrnd : s.control .rnd = 0 := control_eq_zero hrnd
  have hedge : s.control .edge = 0 := control_eq_zero hedge
  have hsat : s.control .sat = 0 := control_eq_zero hsat
  refine ⟨thrRnd_zero c, thrLuma_zero c, thrChroma_zero c, fun pl cy cx ui uj => ?_⟩
  have hvalue : edgeValue c s cy cx = 0 := edgeValue_of_control_nonpos hedge.le c cy cx
  rw [hvalue]
  exact ⟨rfl, ignTest_of_controls_zero hc.chromaNormLog2 hrnd hedge hsat ui uj cy cx,
    ignStep_of_controls_zero hc.chromaNormLog2 hrnd hedge hsat pl cy cx⟩

end Sys2Proof.Proofs
end

section
/-! `IGN.TEST` as the exact rational comparison (spec/43_detectors.md R165): a numerator over 2^48 is divided out, and what
remains are the thresholds of R143 to R145 and the jitter of R164. -/

namespace Sys2Proof.Proofs

open Sys2Proof Sys2Proof.Machine Sys2Proof.Laws

/-! ### The numerators over 2^48 as rationals (R142 to R145, R164) -/

/-- A value with `j` fraction bits is compared as a numerator over 2^48 by scaling it by the remaining `k` bits (R166). -/
theorem lt_mul_two_pow_iff {j k : Nat} (h : j + k = 48) (a v : Int) :
    a < v * 2 ^ k ↔ (a : ℚ) / 2 ^ 48 < (v : ℚ) / 2 ^ j := by
  have hvalue : (v : ℚ) / 2 ^ j = ((v * 2 ^ k : Int) : ℚ) / 2 ^ 48 := by
    rw [← h, pow_add]
    push_cast
    exact (mul_div_mul_right _ _ (by positivity)).symm
  rw [hvalue, div_lt_div_iff_of_pos_right (by positivity), Int.cast_lt]

theorem thrRnd_div (c : Config) (p : Int) :
    (thrRnd c p : ℚ) / 2 ^ 48 = 1 - ((c.kR : ℚ) / 2 ^ 16) * ((p : ℚ) / 2 ^ 16) ^ 2 := by
  unfold thrRnd; push_cast; ring

theorem thrLuma_div (c : Config) (p : Int) :
    (thrLuma c p : ℚ) / 2 ^ 48 = 1 - ((c.kL : ℚ) / 2 ^ 16) * ((p : ℚ) / 2 ^ 16) := by
  unfold thrLuma; push_cast; ring

theorem thrChroma_div (c : Config) (p : Int) :
    (thrChroma c p : ℚ) / 2 ^ 48 = 1 - ((c.kC : ℚ) / 2 ^ 16) * ((p : ℚ) / 2 ^ 16) := by
  unfold thrChroma; push_cast; ring

theorem jitter_div (c : Config) (uj : Word) :
    (jitter c uj : ℚ) / 2 ^ 48 = ((c.jitterScale : ℚ) / 65536) * ((uj.toNat : ℚ) / 2 ^ 32) := by
  unfold jitter; push_cast; ring

/-! ### The three comparators (R165) -/

/-- The draw has 32 fraction bits. -/
theorem rndFires_iff (c : Config) (s : State) (ui : Word) :
    rndFires c s ui = true ↔ (thrRnd c (s.control .rnd) : ℚ) / 2 ^ 48 < (ui.toNat : ℚ) / 2 ^ 32 := by
  rw [rndFires, decide_eq_true_iff, lt_mul_two_pow_iff (j := 32) rfl, Int.cast_natCast]

/-- The chroma divergence has 8 fraction bits. -/
theorem chromaFires_iff {c : Config} (hnorm : c.chromaNormLog2 = 8) (s : State) (uj : Word) (cdn : Nat) :
    chromaFires c s uj cdn = true ↔
      (thrChroma c (s.control .sat) : ℚ) / 2 ^ 48 + (jitter c uj : ℚ) / 2 ^ 48 < (cdn : ℚ) / 2 ^ 8 := by
  rw [chromaFires, hnorm, decide_eq_true_iff, lt_mul_two_pow_iff (j := 8) rfl, Int.cast_add, add_div, Int.cast_natCast]

/-- The edge value has 16 + 10 fraction bits. -/
theorem edgeFires_iff {c : Config} (hnorm : c.edgeNormLog2 = 10) (s : State) (uj : Word) (edgeN : Int) :
    edgeFires c s uj edgeN = true ↔
      (thrLuma c (s.control .edge) : ℚ) / 2 ^ 48 + (jitter c uj : ℚ) / 2 ^ 48 < (edgeN : ℚ) / 2 ^ 26 := by
  rw [edgeFires, hnorm, decide_eq_true_iff, lt_mul_two_pow_iff (j := 26) rfl, Int.cast_add, add_div]

theorem ignTest_iff (c : Config) (s : State) (ui uj : Word) (cdn : Nat) (edgeN : Int) :
    ignTest c s ui uj cdn edgeN = true ↔
      rndFires c s ui = true ∨ chromaFires c s uj cdn = true ∨ edgeFires c s uj edgeN = true := by
  rw [ignTest, Bool.or_eq_true, Bool.or_eq_true, or_assoc]

/-! ### The obligation -/

/-- Settles O41: the integer comparisons are those of R165 scaled by 2^48, as the valid normalisers are 2^10 and 2^8; that a
control is its register read as `s32` (R140) holds by definition. -/
theorem ignitionTestIsTheRationalOne : Obligations.IgnitionTestIsTheRationalOne := by
  unfold Obligations.IgnitionTestIsTheRationalOne
  intro c hc s ui uj cdn edgeN
  rw [ignTest_iff, rndFires_iff, chromaFires_iff hc.chromaNormLog2, edgeFires_iff hc.edgeNormLog2, thrRnd_div,
    thrChroma_div, thrLuma_div, jitter_div]
  rfl

end Sys2Proof.Proofs
end

section
/-! Pixel writes of the fire engine and background noise (spec/44_fire_engine.md R180 to R183): the saturating add on one
byte and on a row pair, and the noise step that uses it. -/

namespace Sys2Proof.Proofs

open Sys2Proof Sys2Proof.Machine Sys2Proof.Laws

/-! ### `PIX.ADDSAT` (R180) -/

section PixelAdd

variable (pl : Chroma) (y x cy cx : Nat) (d : Int) (s : State)

theorem chromaAt_pixAddSat_same :
    (pixAddSat pl y x d s).chromaAt pl y x = clamp8 ((s.chromaAt pl y x).toNat + d) := by
  rw [State.chromaAt, pixelAddr_chroma, pixAddSat_cw, pixAddSat_readPlane, if_pos ⟨rfl, rfl⟩]

theorem chromaAt_pixAddSat_other {y' x' : Nat} (h : y' * s.cw.toNat + x' ≠ y * s.cw.toNat + x) :
    (pixAddSat pl y x d s).chromaAt pl y' x' = s.chromaAt pl y' x' := by
  rw [State.chromaAt, pixelAddr_chroma, pixAddSat_cw, pixAddSat_readPlane, if_neg fun hit => h hit.2]
  rfl

theorem toNat_chromaAt_pixAddSat :
    (((pixAddSat pl y x d s).chromaAt pl y x).toNat : Int) = max 0 (min 255 ((s.chromaAt pl y x).toNat + d)) := by
  rw [chromaAt_pixAddSat_same, clamp8_toNat]

/-- No flag and no register records a saturation. -/
theorem pixAddSat_eq :
    pixAddSat pl y x d s = { s with cb := (pixAddSat pl y x d s).cb, cr := (pixAddSat pl y x d s).cr } := by
  cases pl <;> rfl

/-! ### `PIX.ADD2` (R181) -/

theorem pixAdd2_eq :
    pixAdd2 pl cy cx d s = { s with cb := (pixAdd2 pl cy cx d s).cb, cr := (pixAdd2 pl cy cx d s).cr } := by
  cases pl <;> rfl

theorem pixAdd2_readPlane_other {q : Plane} {a : Nat}
    (h : ¬ (q = .chroma pl ∧ (a = cy * s.cw.toNat + cx ∨ a = (cy + 1) * s.cw.toNat + cx))) :
    (pixAdd2 pl cy cx d s).readPlane q a = s.readPlane q a := by
  rw [pixAdd2, pixAddSat_readPlane, pixAddSat_readPlane, pixAddSat_cw, if_neg, if_neg]
  · exact fun hit => h ⟨hit.1, .inl hit.2⟩
  · exact fun hit => h ⟨hit.1, .inr hit.2⟩

/-- The two pixels of a row pair have different addresses, so each takes one clamped sum of its own. -/
theorem toNat_chromaAt_pixAdd2 (hcw : s.cw ≠ 0) (hy : y = cy ∨ y = cy + 1) :
    (((pixAdd2 pl cy cx d s).chromaAt pl y cx).toNat : Int) = max 0 (min 255 ((s.chromaAt pl y cx).toNat + d)) := by
  have hpos : s.cw.toNat ≠ 0 := fun h => hcw (BitVec.eq_of_toNat_eq h)
  have hrows : (cy + 1) * s.cw.toNat + cx ≠ cy * s.cw.toNat + cx := by rw [Nat.succ_mul]; omega
  rw [pixAdd2]
  rcases hy with rfl | rfl
  · rw [chromaAt_pixAddSat_other _ _ _ _ _ (by simpa using hrows.symm), toNat_chromaAt_pixAddSat]
  · rw [toNat_chromaAt_pixAddSat, chromaAt_pixAddSat_other _ _ _ _ _ hrows]

end PixelAdd

/-- Settles O44: the byte read is the byte written; its corner cases are arithmetic on the clamped sum. -/
theorem pixelAddSaturates : Obligations.PixelAddSaturates := by
  unfold Obligations.PixelAddSaturates
  refine ⟨fun pl y x d s => ?_, by decide⟩
  have hsum (d : Int) (s : State) := toNat_chromaAt_pixAddSat pl y x d s
  refine ⟨hsum d s, ?frame, pixAddSat_eq pl y x d s, ?zero, ?full, ?empty, ?twice⟩
  case frame =>
    intro q a h
    rw [pixAddSat_readPlane, if_neg h]
  case zero => rw [chromaAt_pixAddSat_same, add_zero, clamp8_self]
  case full =>
    intro h hd
    have := hsum d s
    omega
  case empty =>
    intro h hd
    have := hsum d s
    omega
  case twice =>
    intro h
    have hfirst := hsum 100 s
    have hsecond := hsum 100 (pixAddSat pl y x 100 s)
    omega

/-! ### `NOISE.INJECT` (R182) -/

theorem noiseInject_of_noise_zero {s : State} (h : s.params.noise = 0) (c : Config) (pl : Chroma) (cy cx : Nat) :
    noiseInject c pl cy cx s = s := if_neg (not_not.2 (control_eq_zero (p := .noise) h))

theorem noiseInject_of_noise_ne_zero {s : State} (h : s.params.noise ≠ 0) (c : Config) (pl : Chroma) (cy cx : Nat) :
    noiseInject c pl cy cx s = pixAdd2 pl cy cx (noiseDelta c s cy cx) s :=
  if_pos fun hzero => h (BitVec.eq_of_toInt_eq hzero)

theorem truncz_nonneg {a : Int} (ha : 0 ≤ a) (b : Nat) : 0 ≤ truncz a b := by
  rw [truncz_eq_tdiv]
  exact Int.tdiv_nonneg ha (Int.natCast_nonneg b)

/-- The sample is not centred: it has the sign of the noise control (R182, R183). -/
theorem noiseDelta_nonneg {s : State} (h : 0 ≤ s.params.noise.toInt) (c : Config) (cy cx : Nat) :
    0 ≤ noiseDelta c s cy cx :=
  truncz_nonneg (mul_nonneg (Int.natCast_nonneg _) (mul_nonneg h (Int.natCast_nonneg _))) _

/-- The pixel is in a plane of at most 2^22 bytes and the phase is below 2^16 (R29, R42). -/
theorem noiseCoord_lt {s : State} {cy cx : Nat} (hd : s.DimsOk) (hi : s.instValid = true) (hf : s.FireOk)
    (hcy : cy + 1 < s.ch.toNat) (hcx : cx < s.cw.toNat) : s.phase.toNat + cy * s.cw.toNat + cx < 2 ^ 23 := by
  obtain ⟨-, -, hw, -, -, hh, hcw, hch⟩ := hd hi
  obtain ⟨-, -, -, hphase⟩ := hf
  have hbound : fse.phaseBound = 2 ^ 16 := by decide
  have hpixel : cy * s.cw.toNat + cx < s.cw.toNat * s.ch.toNat :=
    chroma_pixelAddr_lt .cb (Nat.lt_of_succ_lt hcy) hcx
  have hplane : s.cw.toNat * s.ch.toNat ≤ 2048 * 2048 := Nat.mul_le_mul (by omega) (by omega)
  omega

/-! ### The worked example of R182 -/

/-- A lattice word of the noise field once it is built, in closed form (R101). -/
theorem lattice_of_ready {s : State} (hs : s.FieldLive) (hl : s.LatticeOk) {i : Nat} (hi : i < fse.noiseLen) :
    s.lattice i = fmix32 (BitVec.ofNat 32 (i + 1) ^^^ 0x7F4A7C15) := by
  rw [State.lattice, hl hs.2, read_latticeTable fse hi, Option.getD_some, mixAt]
  simp [fse]

/-- A sample reads masked indices only (R104). -/
theorem sampleNum_congr {c : Config} {L M : Nat → Word} (h : ∀ i < c.noiseLen, L i = M i) (coord sh : Nat) :
    sampleNum c L coord sh = sampleNum c M coord sh := by
  simp only [sampleNum, h _ (maskIndex_lt c _)]

theorem sampleNum_of_ready {s : State} (hs : s.FieldLive) (hl : s.LatticeOk) (coord sh : Nat) :
    sampleNum fse s.lattice coord sh =
      sampleNum fse (fun i => fmix32 (BitVec.ofNat 32 (i + 1) ^^^ 0x7F4A7C15)) coord sh :=
  sampleNum_congr (fun _ => lattice_of_ready hs hl) coord sh

/-- The noise delta, as R182 writes it. -/
theorem noiseDelta_eq (c : Config) (s : State) (cy cx : Nat) :
    noiseDelta c s cy cx =
      truncz (sampleNum c s.lattice (s.phase.toNat + cy * s.cw.toNat + cx) c.noiseShift *
        (s.params.noise.toInt * c.noiseAmp)) (2 ^ (3 * c.noiseShift) * 2 ^ 48) := rfl

/-- Settles O46: the noise step is skipped or is `PIX.ADD2` with the sample; the worked example is computed from the
closed form of the lattice. -/
theorem noiseInjectAddsTheSample : Obligations.NoiseInjectAddsTheSample := by
  unfold Obligations.NoiseInjectAddsTheSample
  refine ⟨fun c pl cy cx s => ⟨fun h => noiseInject_of_noise_zero h c pl cy cx,
    fun h => noiseDelta_nonneg h.le c cy cx, fun h hcw => ?inject⟩,
    fun s cy cx => noiseCoord_lt, fun s hs hl hnoise hphase => ?worked⟩
  case inject =>
    rw [noiseInject_of_noise_ne_zero h]
    exact ⟨fun y => toNat_chromaAt_pixAdd2 pl y cy cx _ s hcw, fun q a => pixAdd2_readPlane_other pl cy cx _ s,
      pixAdd2_eq pl cy cx _ s⟩
  case worked =>
    have hfirst : sampleNum fse s.lattice 31968 4 = 12085160247296 := by
      rw [sampleNum_of_ready hs hl]; decide
    have hfifth : sampleNum fse s.lattice 31973 4 = 12878398263046 := by
      rw [sampleNum_of_ready hs hl]; decide
    have hdelta (cx : Nat) : noiseDelta fse s 0 cx =
        truncz (sampleNum fse s.lattice (31968 + cx) 4 * 545280) (2 ^ 12 * 2 ^ 48) := by
      rw [noiseDelta_eq, hnoise, hphase, Nat.zero_mul, Nat.add_zero]
      rfl
    refine ⟨hfirst, ?_, hfifth, ?_⟩
    · rw [hdelta, hfirst]; decide
    · rw [hdelta, hfifth]; decide

end Sys2Proof.Proofs
end

section
/-! Flares of the fire engine (spec/44_fire_engine.md R184 to R193): an ignition writes no pixel, and the columns after it
follow the ramp and decay profile. -/

namespace Sys2Proof.Proofs

open Sys2Proof Sys2Proof.Machine Sys2Proof.Laws

/-! ### Ignition (R191) -/

theorem flareIgnite_readPlane (c : Config) (pl : Chroma) (cy cx : Nat) (ui : Word) (s : State) (q : Plane) (a : Nat) :
    (flareIgnite c pl cy cx ui s).readPlane q a = s.readPlane q a := readPlane_congr rfl rfl rfl rfl q a

theorem ignStep_readPlane (c : Config) (pl : Chroma) (cy cx : Nat) (e : Int) (s : State) (q : Plane) (a : Nat) :
    (ignStep c pl cy cx e s).readPlane q a = s.readPlane q a := by
  have hf := frame_ignStep c pl cy cx e s
  obtain ⟨hcb, hcr⟩ := ignStep_planes c pl cy cx e s
  exact readPlane_congr hf.ym hcb hcr hf.epoch q a

/-- A column without a flare is its noise step and an ignition step (R195). -/
theorem column_of_idle {c : Config} {s : State} (h : s.fire.toInt < c.fireMin) (pl : Chroma) (cy cx : Nat) :
    column c pl cy cx s =
      ignStep c pl cy cx (edgeValue c (noiseInject c pl cy cx s) cy cx) (noiseInject c pl cy cx s) := by
  rcases column_cases c pl cy cx s with ⟨hflare, -⟩ | ⟨-, hcol⟩
  · omega
  · exact hcol

/-- A column with a flare is its noise step and the continuation of the flare (R195). -/
theorem column_of_flare {c : Config} {s : State} (h : c.fireMin ≤ s.fire.toInt) (pl : Chroma) (cy cx : Nat) :
    column c pl cy cx s = flareCont c pl cy cx (noiseInject c pl cy cx s) := by
  rcases column_cases c pl cy cx s with ⟨-, hcol⟩ | ⟨hidle, -⟩
  · exact hcol
  · omega

/-- The column register holds the column of an ignition whole (R185). -/
theorem flareDx_flareIgnite {cx : Nat} (h : cx < 2048) (c : Config) (pl : Chroma) (cy : Nat) (ui : Word) (s : State)
    (x : Nat) : flareDx (flareIgnite c pl cy cx ui s) x = (x : Int) - cx := by
  rw [flareDx, flareIgnite, BitVec.toNat_ofNat, Nat.mod_eq_of_lt h]

/-- R186 at the defaults. -/
theorem rampAdd_fse (dx f : Int) : rampAdd fse dx f = 15 * dx * f / 100 := rfl

/-- Settles O49: an ignition changes registers alone, and the column it stores puts the next one at distance 1. -/
theorem ignitionWritesNoPixel : Obligations.IgnitionWritesNoPixel := by
  unfold Obligations.IgnitionWritesNoPixel
  refine ⟨flareIgnite_readPlane, fun c pl cy cx s q a h => ?idle, fun pl cy cx ui s h => ?next, fun f => ?ramp⟩
  case idle => rw [column_of_idle h, ignStep_readPlane]
  case next => rw [flareDx_flareIgnite h]; omega
  case ramp => rw [rampAdd_fse, mul_one]

/-! ### The loop over columns -/

theorem forColumns_one (c : Config) (pl : Chroma) (cy cx : Nat) (s : State) :
    forColumns c pl cy 1 cx s = column c pl cy cx { s with cx := BitVec.ofNat 11 cx } := rfl

/-- The first column, then the others. -/
theorem forColumns_succ (c : Config) (pl : Chroma) (cy n cx : Nat) (s : State) :
    forColumns c pl cy (n + 1) cx s = forColumns c pl cy n (cx + 1) (forColumns c pl cy 1 cx s) := rfl

theorem frame_forColumns (c : Config) (pl : Chroma) (cy n cx : Nat) (s : State) :
    EngineFrame s (forColumns c pl cy n cx s) := by
  induction n generalizing cx s with
  | zero => exact .rfl s
  | succ n ih => exact ((frame_setCx s _).trans (frame_column ..)).trans (ih ..)

/-- Outside the pixels of its row pair the loop changes nothing. -/
theorem forColumns_readPlane_other (c : Config) (pl : Chroma) (cy n cx : Nat) (s : State) (q : Plane) (a : Nat)
    (h : ∀ j y : Nat, j < n → y = cy ∨ y = cy + 1 → ¬ (q = .chroma pl ∧ a = y * s.cw.toNat + (cx + j))) :
    (forColumns c pl cy n cx s).readPlane q a = s.readPlane q a := by
  induction n generalizing cx s with
  | zero => rfl
  | succ n ih =>
    have hfirst := column_readPlane_other c pl cy cx { s with cx := BitVec.ofNat 11 cx } q a (by
      rintro ⟨hq, ha | ha⟩
      · exact h 0 cy n.succ_pos (.inl rfl) ⟨hq, ha⟩
      · exact h 0 (cy + 1) n.succ_pos (.inr rfl) ⟨hq, ha⟩)
    have hf := frame_column c pl cy cx { s with cx := BitVec.ofNat 11 cx }
    rw [forColumns, ih, hfirst]
    · exact readPlane_congr rfl rfl rfl rfl q a
    · intro j y hj hy
      rw [hf.cw, show cx + 1 + j = cx + (j + 1) by omega]
      exact h (j + 1) y (by omega) hy

theorem chromaAt_setCx (s : State) (v : BitVec 11) (pl : Chroma) (y x : Nat) :
    ({ s with cx := v } : State).chromaAt pl y x = s.chromaAt pl y x := readPlane_congr rfl rfl rfl rfl _ _

/-- The addresses of two pixels in different columns of a plane differ (R52). -/
theorem pixelAddr_ne_of_column_ne {w y x y' x' : Nat} (hx : x < w) (hx' : x' < w) (h : x ≠ x') :
    y * w + x ≠ y' * w + x' := fun heq => h <| by
  have hmod := congrArg (· % w) heq
  simpa [Nat.mod_eq_of_lt hx, Nat.mod_eq_of_lt hx'] using hmod

/-- The loop leaves the pixels of a column that is not one of its own as they are. -/
theorem forColumns_chromaAt_other (c : Config) (pl : Chroma) (cy n cx : Nat) (s : State) {y x : Nat}
    (hx : x < s.cw.toNat) (hlast : cx + n ≤ s.cw.toNat) (h : x < cx ∨ cx + n ≤ x) :
    (forColumns c pl cy n cx s).chromaAt pl y x = s.chromaAt pl y x := by
  rw [State.chromaAt, pixelAddr_chroma, (frame_forColumns c pl cy n cx s).cw]
  refine forColumns_readPlane_other c pl cy n cx s _ _ ?_
  rintro j y' hj - ⟨-, ha⟩
  exact pixelAddr_ne_of_column_ne hx (by omega) (by omega) ha

/-! ### The two branches of the continuation (R186, R187) -/

theorem flareCont_of_ramp {c : Config} {s : State} {cx : Nat} (h : flareDx s cx < c.rampLen) (pl : Chroma) (cy : Nat) :
    flareCont c pl cy cx s = pixAdd2 pl cy cx (rampAdd c (flareDx s cx) s.fire.toInt) s := if_pos h

theorem flareCont_of_decay {c : Config} {s : State} {cx : Nat} (h : c.rampLen ≤ flareDx s cx) (pl : Chroma) (cy : Nat) :
    flareCont c pl cy cx s =
      { pixAdd2 pl cy cx s.fire.toInt s with fire := BitVec.ofInt 10 (s.fire.toInt - s.fireStep.toNat) } :=
  if_neg (not_lt.2 h)

/-! ### A flare on its way (R193) -/

/-- The intensity `FIRE` holds before column `k` after an ignition with intensity `f` and step `d`: the ramp keeps it, and
each column of the decay takes `d` from it. -/
def flareIntensity (f d : Int) (k : Nat) : Int := f - (k - 6 : Nat) * d

theorem flareIntensity_of_le {k : Nat} (h : k ≤ 6) (f d : Int) : flareIntensity f d k = f := by
  simp [flareIntensity, Nat.sub_eq_zero_of_le h]

theorem flareIntensity_succ_of_decay {k : Nat} (h : 6 ≤ k) (f d : Int) :
    flareIntensity f d (k + 1) = flareIntensity f d k - d := by
  rw [flareIntensity, flareIntensity, Nat.sub_add_comm h]
  push_cast
  ring

/-- An intensity never rises. -/
theorem flareIntensity_anti (f : Int) {d : Int} (hd : 0 ≤ d) {j k : Nat} (h : j ≤ k) :
    flareIntensity f d k ≤ flareIntensity f d j := by
  unfold flareIntensity
  gcongr

theorem flareProfile_of_ramp {k : Nat} (h : k < 6) (f d : Int) :
    flareProfile f d k = rampAdd fse k (flareIntensity f d k) := by
  rw [flareProfile, if_pos (by omega), rampAdd_fse, flareIntensity_of_le h.le]

theorem flareProfile_of_decay {k : Nat} (h : 6 ≤ k) (f d : Int) : flareProfile f d k = flareIntensity f d k := by
  rw [flareProfile, if_neg (by omega), flareIntensity, Nat.cast_sub h]
  rfl

/-- Before column `c0 + k`, with noise off, a flare of intensity `f` and step `d` from column `c0` is in progress. -/
structure FlareAt (f d : Int) (c0 k : Nat) (s : State) : Prop where
  noise : s.params.noise = 0
  fire : s.fire.toInt = flareIntensity f d k
  fireStep : (s.fireStep.toNat : Int) = d
  ign : s.ign.toNat = c0

/-- A flare that has just been ignited is before column 1. -/
theorem flareAt_one {s : State} (h : s.params.noise = 0) :
    FlareAt s.fire.toInt s.fireStep.toNat s.ign.toNat 1 s :=
  ⟨h, (flareIntensity_of_le (by omega) _ _).symm, rfl, rfl⟩

namespace FlareAt

variable {f d : Int} {c0 k : Nat} {s : State}

theorem setCx (h : FlareAt f d c0 k s) (v : BitVec 11) : FlareAt f d c0 k { s with cx := v } :=
  ⟨h.noise, h.fire, h.fireStep, h.ign⟩

theorem flareDx_eq (h : FlareAt f d c0 k s) : flareDx s (c0 + k) = k := by
  rw [flareDx, h.ign]
  omega

/-- With noise off a column of a flare is its continuation alone. -/
theorem column_eq (h : FlareAt f d c0 k s) (hlit : 16 ≤ flareIntensity f d k) (pl : Chroma) (cy : Nat) :
    column fse pl cy (c0 + k) s = flareCont fse pl cy (c0 + k) s := by
  have hmin : fse.fireMin ≤ s.fire.toInt := h.fire ▸ hlit
  rw [column_of_flare hmin, noiseInject_of_noise_zero h.noise]

/-- The column adds the profile to its row pair; of the registers it changes `FIRE` alone. -/
theorem column_eq_pixAdd2 (h : FlareAt f d c0 k s) (hlit : 16 ≤ flareIntensity f d k) (pl : Chroma) (cy : Nat) :
    column fse pl cy (c0 + k) s =
      { pixAdd2 pl cy (c0 + k) (flareProfile f d k) s with
        fire := BitVec.ofInt 10 (flareIntensity f d (k + 1)) } := by
  rw [h.column_eq hlit]
  rcases Nat.lt_or_ge k 6 with hk | hk
  · have hdx : flareDx s (c0 + k) < fse.rampLen := by rw [h.flareDx_eq]; exact_mod_cast hk
    have hfire : BitVec.ofInt 10 (flareIntensity f d (k + 1)) = s.fire := by
      rw [flareIntensity_of_le hk, ← flareIntensity_of_le hk.le f d, ← h.fire, BitVec.ofInt_toInt]
    rw [flareCont_of_ramp hdx, h.flareDx_eq, h.fire, flareProfile_of_ramp hk, hfire, ← pixAdd2_fire s]
  · have hdx : fse.rampLen ≤ flareDx s (c0 + k) := by rw [h.flareDx_eq]; exact_mod_cast hk
    rw [flareCont_of_decay hdx, h.fire, h.fireStep, flareProfile_of_decay hk, flareIntensity_succ_of_decay hk]

/-- One column on: the decay takes at most 32 from an intensity of at least 16, which `FIRE` holds (R28). -/
theorem column_next (h : FlareAt f d c0 k s) (hf : f ≤ 255) (hd : d ≤ 32) (hlit : 16 ≤ flareIntensity f d k)
    (pl : Chroma) (cy : Nat) : FlareAt f d c0 (k + 1) (column fse pl cy (c0 + k) s) := by
  have hd0 : 0 ≤ d := h.fireStep ▸ Int.natCast_nonneg _
  have hupper := flareIntensity_anti f hd0 (Nat.zero_le (k + 1))
  rw [flareIntensity_of_le (Nat.zero_le 6)] at hupper
  have hlower : flareIntensity f d k - d ≤ flareIntensity f d (k + 1) := by
    rcases Nat.lt_or_ge k 6 with hk | hk
    · rw [flareIntensity_of_le hk.le, flareIntensity_of_le hk]; omega
    · exact (flareIntensity_succ_of_decay hk f d).ge
  rw [h.column_eq_pixAdd2 hlit]
  exact ⟨by simpa using h.noise, toInt_ofInt_fire (by omega), by simpa using h.fireStep, by simpa using h.ign⟩

/-- One column of the loop on. -/
theorem first_column (h : FlareAt f d c0 k s) (hf : f ≤ 255) (hd : d ≤ 32) (hlit : 16 ≤ flareIntensity f d k)
    (pl : Chroma) (cy : Nat) : FlareAt f d c0 (k + 1) (forColumns fse pl cy 1 (c0 + k) s) :=
  (h.setCx _).column_next hf hd hlit pl cy

/-- Both pixels of the column take the clamped sum of the profile. -/
theorem column_toNat_chromaAt (h : FlareAt f d c0 k s) (hlit : 16 ≤ flareIntensity f d k) (hcw : s.cw ≠ 0)
    (pl : Chroma) {cy y : Nat} (hy : y = cy ∨ y = cy + 1) :
    (((column fse pl cy (c0 + k) s).chromaAt pl y (c0 + k)).toNat : Int) =
      max 0 (min 255 ((s.chromaAt pl y (c0 + k)).toNat + flareProfile f d k)) := by
  rw [h.column_eq_pixAdd2 hlit, ← toNat_chromaAt_pixAdd2 pl y cy (c0 + k) (flareProfile f d k) s hcw hy]
  rfl

/-- No draw is made while the flare lasts (R126). -/
theorem forColumns_rngCtr {n : Nat} (h : FlareAt f d c0 k s) (hf : f ≤ 255) (hd : d ≤ 32)
    (hlit : ∀ j, j < k + n → 16 ≤ flareIntensity f d j) (pl : Chroma) (cy : Nat) :
    (forColumns fse pl cy n (c0 + k) s).rngCtr = s.rngCtr := by
  induction n generalizing k s with
  | zero => rfl
  | succ n ih =>
    have hnow := hlit k (by omega)
    rw [forColumns_succ, Nat.add_assoc, ih (h.first_column hf hd hnow pl cy) fun j hj => hlit j (by omega),
      forColumns_one, (h.setCx _).column_eq hnow, flareCont_rngCtr]

/-- The profile, column by column: each column writes its own row pair, which the later ones leave alone. -/
theorem forColumns_toNat_chromaAt {n : Nat} (h : FlareAt f d c0 k s) (hf : f ≤ 255) (hd : d ≤ 32)
    (hlit : ∀ j, j < k + n → 16 ≤ flareIntensity f d j) (hlast : c0 + k + n ≤ s.cw.toNat) (pl : Chroma)
    {cy j y : Nat} (hkj : k ≤ j) (hj : j < k + n) (hy : y = cy ∨ y = cy + 1) :
    (((forColumns fse pl cy n (c0 + k) s).chromaAt pl y (c0 + j)).toNat : Int) =
      max 0 (min 255 ((s.chromaAt pl y (c0 + j)).toNat + flareProfile f d j)) := by
  induction n generalizing k s with
  | zero => omega
  | succ n ih =>
    have hnow := hlit k (by omega)
    have hcw := congrArg BitVec.toNat (frame_forColumns fse pl cy 1 (c0 + k) s).cw
    rw [forColumns_succ, Nat.add_assoc]
    rcases Nat.eq_or_lt_of_le hkj with rfl | hkj
    · have hpos : s.cw ≠ 0 := fun hzero => by simp [hzero] at hlast
      rw [forColumns_chromaAt_other _ _ _ _ _ _ (by omega) (by omega) (by omega), forColumns_one,
        (h.setCx (BitVec.ofNat 11 (c0 + k))).column_toNat_chromaAt hnow hpos pl hy, chromaAt_setCx]
    · have hkept : (forColumns fse pl cy 1 (c0 + k) s).chromaAt pl y (c0 + j) = s.chromaAt pl y (c0 + j) :=
        forColumns_chromaAt_other fse pl cy 1 (c0 + k) s (by omega) (by omega) (by omega)
      rw [← hkept]
      exact ih (h.first_column hf hd hnow pl cy) (fun i hi => hlit i (by omega)) (by omega) hkj (by omega)

end FlareAt

/-- Settles O52: the flare lasts through every column of the loop, as its intensity never rises, so each column adds its
value of the profile. -/
theorem flareFollowsItsProfile : Obligations.FlareFollowsItsProfile := by
  unfold Obligations.FlareFollowsItsProfile
  intro pl cy c0 n s hnoise hmin hmax hstep hign hlast hlong
  have hflare : FlareAt s.fire.toInt s.fireStep.toNat c0 1 s := hign ▸ flareAt_one hnoise
  have hlit : ∀ j, j < 1 + n → 16 ≤ flareIntensity s.fire.toInt s.fireStep.toNat j := by
    intro j hj
    refine le_trans ?_ (flareIntensity_anti _ (Int.natCast_nonneg _) (Nat.lt_one_add_iff.1 hj))
    rcases Nat.lt_or_ge n 6 with hn | hn
    · rwa [flareIntensity_of_le hn.le]
    · rw [flareIntensity, Nat.cast_sub hn]
      exact hlong.resolve_left (by omega)
  refine ⟨fun k y hk hkn hy => ?_, fun q a h => ?_, ?_⟩
  · exact hflare.forColumns_toNat_chromaAt hmax (by omega) hlit (by omega) pl hk (by omega) hy
  · refine forColumns_readPlane_other fse pl cy n (c0 + 1) s q a fun j y hj hy => ?_
    rw [Nat.add_assoc]
    exact h (1 + j) y (by omega) (by omega) hy
  · exact hflare.forColumns_rngCtr hmax (by omega) hlit pl cy

end Sys2Proof.Proofs
end

section
/-! The commands of the host (spec/45_host_commands.md): what each answers once its checks of R263 have let it through.
The checks themselves are the lemmas of `Sys2Proof.Laws` about `admitInstance` and `admitField`. -/

namespace Sys2Proof.Proofs

open Sys2Proof Sys2Proof.Machine Sys2Proof.Laws

variable {s : State}

/-! ### Admission, and the selectors -/

theorem admitInstance_of_live {k : Result} (hs : s.Live) : admitInstance s k = k := admitInstance_ok hs.1 hs.2

theorem admitField_of_fieldLive {k : Result} (hs : s.FieldLive) : admitField s k = k := admitField_ok hs.1 hs.2

theorem paramOfSel_eq_none {sel : Nat} (h : 3 < sel) : Param.ofSel sel = none := by
  obtain ⟨n, rfl⟩ := Nat.exists_eq_add_of_le' h
  rfl

theorem planeOfSel_eq_none {sel : Nat} (h : 2 < sel) : Plane.ofSel sel = none := by
  obtain ⟨n, rfl⟩ := Nat.exists_eq_add_of_le' h
  rfl

theorem planeOfSel_eq_some {sel : Nat} {p : Plane} (h : PlaneSel sel p) : Plane.ofSel sel = some p := by
  obtain ⟨rfl, rfl⟩ | ⟨rfl, rfl⟩ | ⟨rfl, rfl⟩ := h <;> rfl

/-- A number that is not in the map of R36 is reserved. -/
theorem csrOfSel_eq_none {sel : Nat}
    (h : sel ∉ [0x00, 0x01, 0x02, 0x03, 0x04, 0x05, 0x06, 0x08, 0x09, 0x0A, 0x0B, 0x10, 0x11]) :
    Csr.ofSel sel = none := by
  unfold Csr.ofSel
  split
  case h_14 => rfl
  all_goals exact absurd (by decide) h

/-! ### Controls (R223, R227) -/

theorem exec_getp_of_param {sel : Nat} (p : Param) (hs : s.Live) (h : Param.ofSel sel = some p) :
    exec (.getp sel) s = .next (s.answered (s.getParam p)) := by
  show execGetp sel s = _
  rw [execGetp, admitInstance_of_live hs, h]
  rfl

theorem exec_getp_of_no_param {sel : Nat} (hs : s.Live) (h : Param.ofSel sel = none) :
    exec (.getp sel) s = .next (s.errored .errIndex) := by
  show execGetp sel s = _
  rw [execGetp, admitInstance_of_live hs, h]
  rfl

/-- The check of a dimension, as R223 words it. -/
theorem legalDim_iff (d : Nat) : legalDim fse d = true ↔ d % 2 = 0 ∧ 2 ≤ d ∧ d ≤ 4096 := by
  have hmax : fse.maxDim = 4096 := rfl
  simp [legalDim, hmax, and_assoc]

theorem exec_construct_of_legal {w h : Word} (hs : s.FieldLive) (hi : s.instValid = false) (hd : LegalFrame w h) :
    exec (.construct w h) s = .next ((newInstance fse w.toNat h.toNat s).answered 0) := by
  obtain ⟨hw2, hwlo, hwhi, hh2, hhlo, hhhi⟩ := hd
  have hw : legalDim fse (u32 w) = true := (legalDim_iff _).2 ⟨hw2, hwlo, hwhi⟩
  have hh : legalDim fse (u32 h) = true := (legalDim_iff _).2 ⟨hh2, hhlo, hhhi⟩
  show constructAt fse w h s = _
  rw [constructAt, admitField_of_fieldLive hs, hi, hw, hh]
  rfl

/-- Settles O19: the checks decide, and a control answers what it holds; after `CONSTRUCT` the fourth holds its
default. -/
theorem getpReadsOneControl : Obligations.GetpReadsOneControl := by
  unfold Obligations.GetpReadsOneControl
  refine ⟨by decide, fun s sel => ⟨admitInstance_of_fatal, admitInstance_of_no_instance,
    fun hs hsel => exec_getp_of_no_param hs (paramOfSel_eq_none hsel), fun hs => ?_, fun hs hi w h hd => ?_⟩⟩
  · exact ⟨exec_getp_of_param .rnd hs rfl, exec_getp_of_param .edge hs rfl, exec_getp_of_param .sat hs rfl,
      exec_getp_of_param .noise hs rfl⟩
  · have hlive : ((newInstance fse w.toNat h.toNat s).answered 0).Live := ⟨hs.1, rfl⟩
    exact ⟨_, exec_construct_of_legal hs hi hd, exec_getp_of_param .noise hlive rfl⟩

/-! ### Plane bytes (R230, R231) -/

theorem inPlane_iff {p : Plane} {x y : Nat} :
    inPlane s p x y = true ↔ x < s.planeWidth p ∧ y < s.planeHeight p := by simp [inPlane]

theorem exec_wrpx_of_no_plane {sel : Nat} (x y v : Word) (hs : s.Live) (h : Plane.ofSel sel = none) :
    exec (.wrpx sel x y v) s = .next (s.errored .errIndex) := by
  show execWrpx sel x y v s = _
  rw [execWrpx, admitInstance_of_live hs, h]
  rfl

theorem exec_wrpx_of_out_of_range {sel : Nat} {p : Plane} {x y v : Word} (hs : s.Live) (hp : PlaneSel sel p)
    (h : ¬ (x.toNat < s.planeWidth p ∧ y.toNat < s.planeHeight p ∧ v.toNat ≤ 255)) :
    exec (.wrpx sel x y v) s = .next (s.errored .errRange) := by
  have hno : ¬ (inPlane s p (u32 x) (u32 y) && u32 v ≤ 255) = true := by
    rwa [Bool.and_eq_true, inPlane_iff, decide_eq_true_iff, and_assoc]
  show execWrpx sel x y v s = _
  rw [execWrpx, admitInstance_of_live hs, planeOfSel_eq_some hp]
  exact if_neg hno

theorem exec_wrpx_of_in_range {sel : Nat} {p : Plane} {x y v : Word} (hs : s.Live) (hp : PlaneSel sel p)
    (hx : x.toNat < s.planeWidth p) (hy : y.toNat < s.planeHeight p) (hv : v.toNat ≤ 255) :
    exec (.wrpx sel x y v) s =
      .next ((s.writePlane p (y.toNat * s.planeWidth p + x.toNat) (BitVec.ofNat 8 v.toNat)).answered 0) := by
  have hyes : (inPlane s p (u32 x) (u32 y) && u32 v ≤ 255) = true := by
    rw [Bool.and_eq_true, inPlane_iff, decide_eq_true_iff]
    exact ⟨⟨hx, hy⟩, hv⟩
  show execWrpx sel x y v s = _
  rw [execWrpx, admitInstance_of_live hs, planeOfSel_eq_some hp]
  exact if_pos hyes

/-- A plane write changes the three plane memories at most. -/
theorem writePlane_frame (s : State) (p : Plane) (a : Nat) (v : Byte) :
    s.writePlane p a v =
      { s with ym := (s.writePlane p a v).ym, cb := (s.writePlane p a v).cb, cr := (s.writePlane p a v).cr } := by
  rcases p with _ | _ | _ <;> rfl

/-- The response of a command is in no plane. -/
theorem readPlane_answered (s : State) (v : Word) (p : Plane) (a : Nat) :
    (s.answered v).readPlane p a = s.readPlane p a := readPlane_congr rfl rfl rfl rfl p a

/-- Settles O21: a refused `WRPX` fails one check; the others write the plane at the pixel's address, where alone a byte
reads otherwise. -/
theorem wrpxWritesOneByte : Obligations.WrpxWritesOneByte := by
  unfold Obligations.WrpxWritesOneByte
  refine ⟨by decide, fun s sel x y v => ⟨admitInstance_of_fatal, admitInstance_of_no_instance,
    fun hs hsel => exec_wrpx_of_no_plane x y v hs (planeOfSel_eq_none hsel),
    fun hs p hp => exec_wrpx_of_out_of_range hs hp, fun hs p hp hx hy hv => ?writes⟩,
    fun s hs hw hh hcw hch => ?corners⟩
  case writes =>
    refine ⟨_, exec_wrpx_of_in_range hs hp hx hy hv, ?frame, fun q a => ?byte⟩
    case frame => exact congrArg (State.answered · 0) (writePlane_frame s p _ _)
    case byte =>
      have hbyte : (BitVec.ofNat 8 v.toNat).toNat = v.toNat := Nat.mod_eq_of_lt (by omega)
      rw [readPlane_answered, readPlane_writePlane, apply_ite BitVec.toNat, hbyte]
  case corners =>
    have hwidth : s.planeWidth .luma = 64 := by rw [State.planeWidth, hw]; rfl
    have hheight : s.planeHeight .luma = 64 := by rw [State.planeHeight, hh]; rfl
    have hcb : s.planeWidth (.chroma .cb) = 32 := by rw [State.planeWidth, hcw]; rfl
    have hsel0 : PlaneSel 0 .luma := .inl ⟨rfl, rfl⟩
    have hsel1 : PlaneSel 1 (.chroma .cb) := .inr (.inl ⟨rfl, rfl⟩)
    refine ⟨exec_wrpx_of_out_of_range hs hsel1 (by simp [hcb]),
      ⟨_, exec_wrpx_of_in_range hs hsel0 (by simp [hwidth]) (by simp [hheight]) (by decide), ?outbox⟩,
      exec_wrpx_of_out_of_range hs hsel0 (by simp)⟩
    case outbox => simp [State.answered]

theorem exec_rdpx_of_no_plane {sel : Nat} (x y : Word) (hs : s.Live) (h : Plane.ofSel sel = none) :
    exec (.rdpx sel x y) s = .next (s.errored .errIndex) := by
  show execRdpx sel x y s = _
  rw [execRdpx, admitInstance_of_live hs, h]
  rfl

theorem exec_rdpx_of_out_of_range {sel : Nat} {p : Plane} {x y : Word} (hs : s.Live) (hp : PlaneSel sel p)
    (h : ¬ (x.toNat < s.planeWidth p ∧ y.toNat < s.planeHeight p)) :
    exec (.rdpx sel x y) s = .next (s.errored .errRange) := by
  show execRdpx sel x y s = _
  rw [execRdpx, admitInstance_of_live hs, planeOfSel_eq_some hp]
  exact if_neg (mt inPlane_iff.1 h)

theorem exec_rdpx_of_in_range {sel : Nat} {p : Plane} {x y : Word} (hs : s.Live) (hp : PlaneSel sel p)
    (hx : x.toNat < s.planeWidth p) (hy : y.toNat < s.planeHeight p) :
    exec (.rdpx sel x y) s =
      .next (s.answered ((s.readPlane p (y.toNat * s.planeWidth p + x.toNat)).setWidth 32)) := by
  show execRdpx sel x y s = _
  rw [execRdpx, admitInstance_of_live hs, planeOfSel_eq_some hp]
  exact if_pos (inPlane_iff.2 ⟨hx, hy⟩)

/-- Settles O22: the checks decide, and the byte at the pixel's address is the answer. -/
theorem rdpxReadsOneByte : Obligations.RdpxReadsOneByte := by
  unfold Obligations.RdpxReadsOneByte
  exact ⟨by decide, fun s sel x y => ⟨admitInstance_of_fatal, admitInstance_of_no_instance,
    fun hs hsel => exec_rdpx_of_no_plane x y hs (planeOfSel_eq_none hsel),
    fun hs _ hp => exec_rdpx_of_out_of_range hs hp, fun hs _ hp => exec_rdpx_of_in_range hs hp⟩⟩

/-! ### Draws (R233 to R235) -/

theorem exec_rngnext_of_live (hs : s.Live) : exec .rngnext s = .next { s with
    rngCtr := s.rngCtr + 1, outbox := ⟨0, fmix32 ((s.rngCtr + 1) ^^^ s.rngKey)⟩ :: s.outbox } := by
  show rngnextAt fse s = _
  rw [rngnextAt, admitInstance_of_live hs]
  rfl

/-- The two raw draws are one command (R123, R234). -/
theorem exec_rngunif (s : State) : exec .rngunif s = exec .rngnext s := rfl

theorem exec_rngbound_of_live (n : Word) (hs : s.Live) : exec (.rngbound n) s = .next { s with
    rngCtr := s.rngCtr + 1,
    outbox := ⟨0, BitVec.ofNat 32 (boundedOf (fmix32 ((s.rngCtr + 1) ^^^ s.rngKey)) n.toNat)⟩ :: s.outbox } := by
  show rngboundAt fse n s = _
  rw [rngboundAt, admitInstance_of_live hs]
  rfl

/-- Settles O24: a live `RNGNEXT` is one draw; the worked draw is its value at the seed. -/
theorem rngnextDraws : Obligations.RngnextDraws := by
  unfold Obligations.RngnextDraws
  refine ⟨by decide, fun s => ⟨admitInstance_of_fatal, admitInstance_of_no_instance,
    exec_rngnext_of_live, fun hs hctr hkey => ?_⟩⟩
  have hdraw : fmix32 ((0x00000F01 + 1) ^^^ 0x9E3779B9) = 0x7CE09155 := by decide
  rw [exec_rngnext_of_live hs, hctr, hkey, hdraw]
  rfl

/-- Settles O25: `RNGUNIF` is `RNGNEXT` in every state. -/
theorem rngunifDrawsTheSameBits : Obligations.RngunifDrawsTheSameBits := by
  unfold Obligations.RngunifDrawsTheSameBits
  exact ⟨by decide, fun s => ⟨admitInstance_of_fatal, admitInstance_of_no_instance,
    fun hs => (exec_rngunif s).trans (exec_rngnext_of_live hs), exec_rngunif s⟩⟩

/-- Settles O26: a live `RNGBOUND` is one draw and its share of the bound, which is nothing of the bound 0; the worked
draw is the share at the seed. -/
theorem rngboundDraws : Obligations.RngboundDraws := by
  unfold Obligations.RngboundDraws
  refine ⟨by decide, fun s n => ⟨admitInstance_of_fatal, admitInstance_of_no_instance,
    exec_rngbound_of_live n, fun hs => ?zero, fun hs hctr hkey => ?worked⟩⟩
  case zero =>
    rw [exec_rngbound_of_live 0 hs, show (0 : Word).toNat = 0 from rfl, boundedOf_zero]
    rfl
  case worked =>
    have hdraw : boundedOf (fmix32 ((0x00000F01 + 1) ^^^ 0x9E3779B9)) (65536 : Word).toNat = 31968 := by decide
    rw [exec_rngbound_of_live 65536 hs, hctr, hkey, hdraw]
    rfl

/-! ### The noise field (R236, R237) -/

theorem exec_nfsample_of_shift {shift : Word} (coord amp : Word) (hs : s.FieldLive) (h : shift.toNat ≤ 8) :
    exec (.nfsample coord amp shift) s =
      .next (s.answered (BitVec.ofInt 32 (sampleQ16 fse s.lattice coord.toNat amp.toInt shift.toNat))) := by
  show nfsampleAt fse coord amp shift s = _
  rw [nfsampleAt, admitField_of_fieldLive hs]
  exact if_pos h

theorem exec_nfsample_of_shift_too_large {shift : Word} (coord amp : Word) (hs : s.FieldLive) (h : 8 < shift.toNat) :
    exec (.nfsample coord amp shift) s = .next (s.errored .errRange) := by
  show nfsampleAt fse coord amp shift s = _
  rw [nfsampleAt, admitField_of_fieldLive hs]
  exact if_neg h.not_ge

/-- The answer from the built field, its lattice in closed form (R101, R106). -/
theorem exec_nfsample_of_ready {shift : Word} (coord amp : Word) (hs : s.FieldLive) (hl : s.LatticeOk)
    (h : shift.toNat ≤ 8) :
    exec (.nfsample coord amp shift) s = .next (s.answered (BitVec.ofInt 32
      (sampleQ16 fse (fun i => fmix32 (BitVec.ofNat 32 (i + 1) ^^^ 0x7F4A7C15)) coord.toNat amp.toInt shift.toNat))) := by
  rw [exec_nfsample_of_shift coord amp hs h, sampleQ16, sampleNum_of_ready hs hl, ← sampleQ16]

/-- Settles O34: the checks decide; the sample fits the result word, so the word reads as the sample; the worked examples
are computed from the closed form of the lattice. -/
theorem nfsampleAnswersTheSample : Obligations.NfsampleAnswersTheSample := by
  unfold Obligations.NfsampleAnswersTheSample
  refine ⟨by decide, fun s hs hl => ⟨?first, ?second⟩, fun s coord amp shift => ⟨admitField_of_fatal, admitField_of_not_ready, exec_nfsample_of_shift_too_large coord amp, fun hs h => ?sample⟩⟩
  case first =>
    rw [exec_nfsample_of_ready _ _ hs hl (by decide)]
    exact congrArg (fun r => Host.Outcome.next (s.answered r)) (by decide)
  case second =>
    rw [exec_nfsample_of_ready _ _ hs hl (by decide)]
    exact congrArg (fun r => Host.Outcome.next (s.answered r)) (by decide)
  case sample =>
    obtain ⟨hexact, -, hfits, -⟩ := sampleFitsTheResultWord fse s.lattice coord.toNat shift.toNat amp.toInt
      (BitVec.le_toInt amp) BitVec.toInt_lt
    exact ⟨_, exec_nfsample_of_shift coord amp hs h, hfits.trans hexact⟩

theorem exec_nfread_of_index {index : Word} (hs : s.FieldLive) (h : index.toNat < 4096) :
    exec (.nfread index) s = .next (s.answered (s.lattice index.toNat)) := by
  show nfreadAt fse index s = _
  rw [nfreadAt, admitField_of_fieldLive hs]
  exact if_pos h

theorem exec_nfread_of_index_too_large {index : Word} (hs : s.FieldLive) (h : 4096 ≤ index.toNat) :
    exec (.nfread index) s = .next (s.errored .errRange) := by
  show nfreadAt fse index s = _
  rw [nfreadAt, admitField_of_fieldLive hs]
  exact if_neg h.not_gt

/-- Settles O35: the index is compared with the lattice length and read as it is; the first word of the built lattice is
its closed form at 0. -/
theorem nfreadAnswersTheWord : Obligations.NfreadAnswersTheWord := by
  unfold Obligations.NfreadAnswersTheWord
  refine ⟨by decide, fun s index => ⟨admitField_of_fatal, admitField_of_not_ready,
    exec_nfread_of_index_too_large, exec_nfread_of_index⟩,
    fun s hs hl => ⟨?_, exec_nfread_of_index_too_large hs (by decide)⟩⟩
  rw [exec_nfread_of_index hs (by decide), lattice_of_ready hs hl (by decide)]
  exact congrArg (fun r => Host.Outcome.next (s.answered r)) (by decide)

/-! ### Registers (R36, R238) and `NOP` (R220) -/

theorem exec_rdcsr_of_csr (s : State) {sel : Nat} (r : Csr) (h : Csr.ofSel sel = some r) :
    exec (.rdcsr sel) s = .next (s.answered (readCsr fse s r)) := by
  show rdcsrAt fse sel s = _
  rw [rdcsrAt, h]
  rfl

theorem exec_rdcsr_of_reserved (s : State) {sel : Nat} (h : Csr.ofSel sel = none) :
    exec (.rdcsr sel) s = .next (s.errored .errIndex) := by
  show rdcsrAt fse sel s = _
  rw [rdcsrAt, h]
  rfl

/-- The three bits of `STATUS` as a number (R37). -/
theorem statusWord_toNat (s : State) :
    s.statusWord.toNat = s.nfReady.toNat + 2 * s.instValid.toNat + 4 * s.fatal.toNat := by
  have hbits : ∀ f i r : Bool, (0#29 ++ BitVec.ofBool f ++ BitVec.ofBool i ++ BitVec.ofBool r : BitVec 32).toNat =
      r.toNat + 2 * i.toNat + 4 * f.toNat := by decide
  exact hbits _ _ _

/-- A block that is built and constructed has the `STATUS` 3 (R37). -/
theorem statusWord_of_constructed (hs : s.FieldLive) (hi : s.instValid = true) : s.statusWord = 3 := by
  apply BitVec.eq_of_toNat_eq
  rw [statusWord_toNat, hs.1, hs.2, hi]
  rfl

/-- Settles O36: each number of the map names a register and answers its contents, any other number names none. -/
theorem rdcsrReadsTheMap : Obligations.RdcsrReadsTheMap := by
  unfold Obligations.RdcsrReadsTheMap
  refine ⟨by decide, by decide, fun s => ?_⟩
  have hread {sel : Nat} (r : Csr) := exec_rdcsr_of_csr s (sel := sel) r
  refine ⟨hread .id rfl, ⟨_, hread .status rfl, statusWord_toNat s⟩, fun hs hi => ?status, hread .lastErr rfl,
    hread .width rfl, hread .height rfl, hread .cw rfl, hread .ch rfl, hread (.param .rnd) rfl,
    hread (.param .edge) rfl, hread (.param .sat) rfl, hread (.param .noise) rfl, hread .rngCtr rfl, hread .rngKey rfl,
    fun sel h => exec_rdcsr_of_reserved s (csrOfSel_eq_none h)⟩
  rw [hread .status rfl, readCsr, statusWord_of_constructed hs hi]

/-- Settles O11: `NOP` has no check to fail and completes with the result 0; it is the all-zero packet. -/
theorem nopCompletes : Obligations.NopCompletes := by
  unfold Obligations.NopCompletes
  exact ⟨fun s => complete_eq s 0, by decide, by decide⟩

end Sys2Proof.Proofs
end

section
/-! The encoding of commands (spec/30_encoding.md R70 to R76): what decodes to a command, what a command's packet is,
and which packets are illegal. -/

namespace Sys2Proof.Proofs

open Sys2Proof Sys2Proof.Machine Sys2Proof.Laws

/-! ### The decoder on a command word put together from its fields (R71, R72) -/

theorem packet_op (sel op : BitVec 8) (a b d : Word) : Packet.op ⟨commandWord sel op, a, b, d⟩ = op :=
  commandWord_op sel op

theorem packet_sel (sel op : BitVec 8) (a b d : Word) : Packet.sel ⟨commandWord sel op, a, b, d⟩ = sel :=
  commandWord_sel sel op

theorem packet_rsv (sel op : BitVec 8) (a b d : Word) : Packet.rsv ⟨commandWord sel op, a, b, d⟩ = 0 :=
  commandWord_rsv sel op

/-- Without reserved bits the operation code decides. -/
theorem decode_commandWord (sel op : BitVec 8) (a b d : Word) :
    decode ⟨commandWord sel op, a, b, d⟩ = decodeOp ⟨commandWord sel op, a, b, d⟩ :=
  if_pos (packet_rsv sel op a b d)

theorem formatZ_of_sel {p : Packet} (h : p.sel = 0) (i : Instr) : formatZ p i = .ok i := if_pos h

/-- A selector that fits its field is read back as it was written. -/
theorem toNat_ofNat_sel {sel : Nat} (h : SelFits sel) : (BitVec.ofNat 8 sel).toNat = sel := Nat.mod_eq_of_lt h

/-- A packet with a command's own command word and the operand words it uses decodes to the command: the words it does
not use do not count (R72). -/
theorem decode_of_command_words {i : Instr} (hi : WellFormed i) {q : Packet} (h0 : q.w0 = (encode i).w0)
    (h1 : 1 ≤ i.operandWords → q.w1 = (encode i).w1) (h2 : 2 ≤ i.operandWords → q.w2 = (encode i).w2)
    (h3 : 3 ≤ i.operandWords → q.w3 = (encode i).w3) : decode q = .ok i := by
  obtain ⟨w0, w1, w2, w3⟩ := q
  obtain rfl : w0 = (encode i).w0 := h0
  cases i with
  | setp sel | getp sel | wrpx sel | rdpx sel | rdcsr sel =>
    simp only [Instr.operandWords, encode, Nat.reduceLeDiff, forall_const] at h1 h2 h3
    simp only [encode, decode_commandWord, decodeOp, packet_op, packet_sel, toNat_ofNat_sel hi, *]
    rfl
  | nop | nfbuild | shutdown | construct | destroy | process | rngnext | rngunif | rngbound | nfsample | nfread =>
    simp only [Instr.operandWords, encode, Nat.reduceLeDiff, forall_const] at h1 h2 h3
    simp only [encode, decode_commandWord, decodeOp, packet_op, formatZ_of_sel (packet_sel ..), *]
    rfl

/-- Settles O2: the packet of a command carries the command's own words. -/
theorem decodeOfEncode : Obligations.DecodeOfEncode := by
  unfold Obligations.DecodeOfEncode
  exact fun i hi => decode_of_command_words hi rfl (fun _ => rfl) (fun _ => rfl) (fun _ => rfl)

/-! ### Packets that decode -/

/-- The command word of a packet that decodes, put together from its fields. -/
theorem w0_eq_commandWord {p : Packet} (h : p.rsv = 0) {op : Nat} (hop : p.op.toNat = op) :
    p.w0 = commandWord p.sel (BitVec.ofNat 8 op) := by
  rw [← hop, BitVec.ofNat_toNat, BitVec.setWidth_eq]
  exact word_of_fields p.w0 h

theorem encode_of_decode {p : Packet} {i : Instr} (h : decode p = .ok i) :
    WellFormed i ∧ encode i = ⟨p.w0, if 1 ≤ i.operandWords then p.w1 else 0, if 2 ≤ i.operandWords then p.w2 else 0,
      if 3 ≤ i.operandWords then p.w3 else 0⟩ := by
  obtain ⟨hrsv, h⟩ := decode_ok h
  unfold decodeOp at h
  split at h
  case h_17 => cases h
  -- the five commands of format S, then those of format Z
  case h_6 hop | h_7 hop | h_9 hop | h_10 hop | h_16 hop =>
    have hw := w0_eq_commandWord hrsv hop
    cases h
    exact ⟨p.sel.isLt, by simp [encode, hw, Instr.operandWords]⟩
  all_goals
    rename_i hop
    obtain ⟨hsel, rfl⟩ := formatZ_ok h
    have hw := w0_eq_commandWord hrsv hop
    rw [hsel] at hw
    exact ⟨trivial, by simp [encode, hw, Instr.operandWords]⟩

/-- Settles O3: a packet that decodes has the words of its command, and so has every packet that shares the used
ones. -/
theorem encodeOfDecode : Obligations.EncodeOfDecode := by
  unfold Obligations.EncodeOfDecode
  intro p i h
  obtain ⟨hi, he⟩ := encode_of_decode h
  refine ⟨hi, he, fun q h0 h1 h2 h3 => decode_of_command_words hi ?_ ?_ ?_ ?_⟩ <;> rw [he]
  · exact h0
  · exact fun hn => (h1 hn).trans (if_pos hn).symm
  · exact fun hn => (h2 hn).trans (if_pos hn).symm
  · exact fun hn => (h3 hn).trans (if_pos hn).symm

/-! ### Illegal packets (R76) -/

theorem packet_rsv_toNat (p : Packet) : p.rsv.toNat = p.w0.toNat / 65536 := by
  rw [Packet.rsv, BitVec.extractLsb'_toNat, Nat.shiftRight_eq_div_pow]
  have := p.w0.isLt
  omega

theorem packet_sel_toNat (p : Packet) : p.sel.toNat = p.w0.toNat / 256 % 256 := by
  rw [Packet.sel, BitVec.extractLsb'_toNat, Nat.shiftRight_eq_div_pow]

theorem packet_op_toNat (p : Packet) : p.op.toNat = p.w0.toNat % 256 := by
  rw [Packet.op, BitVec.extractLsb'_toNat, Nat.shiftRight_zero]

theorem formatZ_error_iff (p : Packet) (i : Instr) : (∃ e, formatZ p i = .error e) ↔ p.sel.toNat ≠ 0 := by
  unfold formatZ
  split <;> simp_all [← BitVec.toNat_inj]

/-- A packet with no reserved bits is illegal by its operation code, or by a selector where format Z has none. -/
theorem decodeOp_error_iff (p : Packet) :
    (∃ e, decodeOp p = .error e) ↔
      p.op.toNat ∉ [0x00, 0x01, 0x02, 0x10, 0x11, 0x12, 0x13, 0x14, 0x20, 0x21, 0x30, 0x31, 0x32, 0x33, 0x34, 0x40] ∨
      (p.op.toNat ∈ [0x00, 0x01, 0x02, 0x10, 0x11, 0x14, 0x30, 0x31, 0x32, 0x33, 0x34] ∧ p.sel.toNat ≠ 0) := by
  unfold decodeOp
  split
  case h_17 => simp_all
  case h_6 hop | h_7 hop | h_9 hop | h_10 hop | h_16 hop => simp [hop]
  all_goals
    rename_i hop
    simp [hop, formatZ_error_iff]

/-- Settles O4: the fields of the command word are its digits, and the decoder rejects by them alone. -/
theorem illegalPacketsAreThoseNamed : Obligations.IllegalPacketsAreThoseNamed := by
  unfold Obligations.IllegalPacketsAreThoseNamed
  intro p
  rw [← packet_rsv_toNat, ← packet_op_toNat, ← packet_sel_toNat, ← decodeOp_error_iff]
  unfold decode
  split <;> simp_all [← BitVec.toNat_inj]

end Sys2Proof.Proofs
end

section
/-! What a command can do (spec/45_host_commands.md, spec/60_exceptions.md R260 to R276), said once for all sixteen: it
is refused and changes `LASTERR` alone, or it is the `NFBUILD` that fails, or it completes with the effect of its rule.
The statements about responses, steps and runs follow from that. -/

namespace Sys2Proof.Proofs

open Sys2Proof Sys2Proof.Machine Sys2Proof.Laws

/-! ### The effects of the commands -/

/-- In the state `s` the command `i`, admitted and completed, leaves the state `u` and has the result `v`. -/
inductive Completed (s : State) : Instr → State → Word → Prop where
  | nop : Completed s .nop s 0
  | nfbuildAgain (hs : s.FieldLive) : Completed s .nfbuild s 0
  | nfbuild (hf : s.fatal = false) : Completed s .nfbuild { nfBuild fse s with nfReady := true } 0
  | shutdown : Completed s .shutdown s.resetBlock 0
  | construct {w h : Word} (hs : s.FieldLive) (hd : LegalFrame w h) :
      Completed s (.construct w h) (newInstance fse w.toNat h.toNat s) 0
  | destroy (hs : s.Live) : Completed s .destroy (dropInstance s) 0
  | setp {sel : Nat} (p : Param) (v : Word) (hs : s.Live) : Completed s (.setp sel v) (s.setParam p v) 0
  | getp {sel : Nat} (p : Param) : Completed s (.getp sel) s (s.getParam p)
  | process (t : Word) (hs : s.Live) : Completed s (.process t) (frame fse s) 0
  | wrpx {sel : Nat} {p : Plane} {x y : Word} (v : Word) (hs : s.Live) (hx : x.toNat < s.planeWidth p)
      (hy : y.toNat < s.planeHeight p) :
      Completed s (.wrpx sel x y v)
        (s.writePlane p (s.pixelAddr p y.toNat x.toNat) (BitVec.ofNat 8 v.toNat)) 0
  | rdpx {sel : Nat} (p : Plane) (x y : Word) :
      Completed s (.rdpx sel x y) s ((s.readPlane p (s.pixelAddr p y.toNat x.toNat)).setWidth 32)
  | rngnext (hs : s.Live) : Completed s .rngnext (rngAdvance s) (rngRaw fse s)
  | rngunif (hs : s.Live) : Completed s .rngunif (rngAdvance s) (rngRaw fse s)
  | rngbound (n : Word) (hs : s.Live) :
      Completed s (.rngbound n) (rngAdvance s) (BitVec.ofNat 32 (boundedOf (rngRaw fse s) n.toNat))
  | nfsample (k a sh : Word) :
      Completed s (.nfsample k a sh) s (BitVec.ofInt 32 (sampleQ16 fse s.lattice k.toNat a.toInt sh.toNat))
  | nfread (n : Word) : Completed s (.nfread n) s (s.lattice n.toNat)
  | rdcsr {sel : Nat} (r : Csr) : Completed s (.rdcsr sel) s (readCsr fse s r)

/-- The ways the execution of a command ends. -/
inductive Ends (s : State) (i : Instr) : Result → Prop where
  | refused (st : Status) (hok : st ≠ .ok) (hnomem : st ≠ .errNomem) : Ends s i (.next (s.errored st))
  | failedBuild (hi : i = .nfbuild) (hf : s.fatal = false) (hr : s.nfReady = false) (hm : s.nfMemOk = false) :
      Ends s i (.next ({ s with fatal := true }.errored .errNomem))
  | completed {u : State} {v : Word} (h : Completed s i u v) : Ends s i (.next (u.answered v))

namespace Ends

variable {s : State} {i : Instr} {k : Result}

theorem admitNotFatal (h : s.fatal = false → Ends s i k) : Ends s i (admitNotFatal s k) := by
  cases hf : s.fatal
  · rw [admitNotFatal_ok hf]; exact h hf
  · rw [admitNotFatal_of_fatal hf]; exact .refused .errFatal (by decide) (by decide)

theorem admitField (h : s.FieldLive → Ends s i k) : Ends s i (admitField s k) := by
  obtain ⟨-, heq⟩ | ⟨-, -, heq⟩ | ⟨hf, hr, heq⟩ := admitField_cases s k <;> rw [heq]
  · exact .refused .errFatal (by decide) (by decide)
  · exact .refused .errNotReady (by decide) (by decide)
  · exact h ⟨hf, hr⟩

theorem admitInstance (h : s.Live → Ends s i k) : Ends s i (admitInstance s k) := by
  obtain ⟨-, heq⟩ | ⟨-, -, heq⟩ | ⟨hf, hi, heq⟩ := admitInstance_cases s k <;> rw [heq]
  · exact .refused .errFatal (by decide) (by decide)
  · exact .refused .errNoInstance (by decide) (by decide)
  · exact h ⟨hf, hi⟩

theorem nfbuild (s : State) : Ends s .nfbuild (nfbuildAt fse s) := by
  refine .admitNotFatal fun hf => ?_
  by_cases hr : s.nfReady = true
  · rw [if_pos hr]
    exact .completed (.nfbuildAgain ⟨hf, hr⟩)
  · rw [if_neg hr]
    by_cases hm : s.nfMemOk = true
    · rw [if_pos hm]
      exact .completed (.nfbuild hf)
    · rw [if_neg hm]
      exact .failedBuild rfl hf (Bool.eq_false_iff.2 hr) (Bool.eq_false_iff.2 hm)

theorem construct (w h : Word) (s : State) : Ends s (.construct w h) (constructAt fse w h s) := by
  refine .admitField fun hs => ?_
  cases hi : s.instValid
  · by_cases hd : (legalDim fse (u32 w) && legalDim fse (u32 h)) = true
    · rw [if_neg Bool.false_ne_true, if_pos hd]
      rw [Bool.and_eq_true, legalDim_iff, legalDim_iff] at hd
      obtain ⟨⟨hw2, hwlo, hwhi⟩, hh⟩ := hd
      exact .completed (.construct hs ⟨hw2, hwlo, hwhi, hh⟩)
    · rw [if_neg Bool.false_ne_true, if_neg hd]
      exact .refused .errDim (by decide) (by decide)
  · exact .refused .errExists (by decide) (by decide)

theorem setp (sel : Nat) (v : Word) (s : State) : Ends s (.setp sel v) (execSetp sel v s) := by
  refine .admitInstance fun hs => ?_
  cases Param.ofSel sel with
  | none => exact .refused .errIndex (by decide) (by decide)
  | some p => exact .completed (.setp p v hs)

theorem getp (sel : Nat) (s : State) : Ends s (.getp sel) (execGetp sel s) := by
  refine .admitInstance fun _ => ?_
  cases Param.ofSel sel with
  | none => exact .refused .errIndex (by decide) (by decide)
  | some p => exact .completed (.getp p)

theorem wrpx (sel : Nat) (x y v : Word) (s : State) : Ends s (.wrpx sel x y v) (execWrpx sel x y v s) := by
  refine .admitInstance fun hs => ?_
  cases Plane.ofSel sel with
  | none => exact .refused .errIndex (by decide) (by decide)
  | some p =>
    dsimp only
    split
    case isTrue h =>
      rw [Bool.and_eq_true, inPlane_iff] at h
      obtain ⟨⟨hx, hy⟩, -⟩ := h
      exact .completed (.wrpx v hs hx hy)
    case isFalse => exact .refused .errRange (by decide) (by decide)

theorem rdpx (sel : Nat) (x y : Word) (s : State) : Ends s (.rdpx sel x y) (execRdpx sel x y s) := by
  refine .admitInstance fun _ => ?_
  cases Plane.ofSel sel with
  | none => exact .refused .errIndex (by decide) (by decide)
  | some p =>
    dsimp only
    split
    · exact .completed (.rdpx p x y)
    · exact .refused .errRange (by decide) (by decide)

theorem nfsample (k a sh : Word) (s : State) : Ends s (.nfsample k a sh) (nfsampleAt fse k a sh s) := by
  refine .admitField fun _ => ?_
  split
  · exact .completed (.nfsample k a sh)
  · exact .refused .errRange (by decide) (by decide)

theorem nfread (n : Word) (s : State) : Ends s (.nfread n) (nfreadAt fse n s) := by
  refine .admitField fun _ => ?_
  split
  · exact .completed (.nfread n)
  · exact .refused .errRange (by decide) (by decide)

theorem rdcsr (sel : Nat) (s : State) : Ends s (.rdcsr sel) (rdcsrAt fse sel s) := by
  unfold rdcsrAt
  cases Csr.ofSel sel with
  | none => exact .refused .errIndex (by decide) (by decide)
  | some r => exact .completed (.rdcsr r)

end Ends

/-- Every command ends in one of the ways of `Ends`. -/
theorem exec_ends (i : Instr) (s : State) : Ends s i (exec i s) := by
  cases i with
  | nop => exact .completed .nop
  | nfbuild => exact .nfbuild s
  | shutdown => exact .completed .shutdown
  | construct w h => exact .construct w h s
  | destroy => exact .admitInstance fun hs => .completed (.destroy hs)
  | setp sel v => exact .setp sel v s
  | getp sel => exact .getp sel s
  | process t => exact .admitInstance fun hs => .completed (.process t hs)
  | wrpx sel x y v => exact .wrpx sel x y v s
  | rdpx sel x y => exact .rdpx sel x y s
  | rngnext => exact .admitInstance fun hs => .completed (.rngnext hs)
  | rngunif => exact .admitInstance fun hs => .completed (.rngunif hs)
  | rngbound n => exact .admitInstance fun hs => .completed (.rngbound n hs)
  | nfsample k a sh => exact .nfsample k a sh s
  | nfread n => exact .nfread n s
  | rdcsr sel => exact .rdcsr sel s

/-- The ways a command ends, by the state it leaves. -/
theorem ends_of_exec {i : Instr} {s t : State} (h : exec i s = .next t) : Ends s i (.next t) := h ▸ exec_ends i s

/-! ### What a completed command keeps -/

namespace Completed

variable {s u : State} {i : Instr} {v : Word}

/-- No command touches the host's side of the port: the response is the answer's (R32, R75). -/
theorem port (h : Completed s i u v) : u.outbox = s.outbox ∧ u.inbox = s.inbox := by
  cases h with
  | process => exact ⟨(frame_frame fse s).outbox, (frame_frame fse s).inbox⟩
  | setp p => cases p <;> exact ⟨rfl, rfl⟩
  | wrpx => exact ⟨by simp, by simp⟩
  | nop | nfbuildAgain | nfbuild | shutdown | construct | destroy | getp | rdpx | rngnext | rngunif | rngbound
    | nfsample | nfread | rdcsr => exact ⟨rfl, rfl⟩

/-- R266: a command that completes does not write `LASTERR`, but for `SHUTDOWN`. -/
theorem lastErr (h : Completed s i u v) (hi : i ≠ .shutdown) : u.lastErr = s.lastErr := by
  cases h with
  | shutdown => exact absurd rfl hi
  | process => exact (frame_frame fse s).lastErr
  | setp p => cases p <;> rfl
  | wrpx => simp
  | nop | nfbuildAgain | nfbuild | construct | destroy | getp | rdpx | rngnext | rngunif | rngbound
    | nfsample | nfread | rdcsr => rfl

/-- R269: no command that completes enters `FATAL`. -/
theorem fatal (h : Completed s i u v) (hf : s.fatal = false) : u.fatal = false := by
  cases h with
  | shutdown => rfl
  | process => exact (frame_frame fse s).fatal.trans hf
  | setp p => cases p <;> exact hf
  | wrpx => simpa using hf
  | nop | nfbuildAgain | nfbuild | construct | destroy | getp | rdpx | rngnext | rngunif | rngbound
    | nfsample | nfread | rdcsr => exact hf

/-- R74: a command without a result answers 0. -/
theorem result_eq_zero (h : Completed s i u v) (hi : givesNoResult i) : v = 0 := by
  cases h with
  | nop | nfbuildAgain | nfbuild | shutdown | construct | destroy | setp | process | wrpx => rfl
  | getp | rdpx | rngnext | rngunif | rngbound | nfsample | nfread | rdcsr => simp [givesNoResult] at hi

end Completed

/-! ### Responses (R75, R266) -/

/-- Settles O39: a refusal and a failed build answer 0, a completed command its result. -/
theorem everyCommandAnswersOnce : Obligations.EveryCommandAnswersOnce := by
  unfold Obligations.EveryCommandAnswersOnce
  intro i s
  have h := exec_ends i s
  generalize exec i s = r at h
  cases h with
  | refused st => exact ⟨_, st, 0, rfl, rfl, rfl, fun _ => rfl, fun _ => rfl⟩
  | failedBuild => exact ⟨_, .errNomem, 0, rfl, rfl, rfl, fun _ => rfl, fun _ => rfl⟩
  | @completed u v h =>
    obtain ⟨hout, hin⟩ := h.port
    exact ⟨_, .ok, v, rfl, congrArg (List.cons (⟨0, v⟩ : Response)) hout, hin, fun hok => absurd rfl hok,
      h.result_eq_zero⟩

/-- The status of a response is read back from its word. -/
theorem setWidth_code (st : Status) : (st.code.setWidth 32).setWidth 8 = st.code := by cases st <;> rfl

theorem code_eq_zero_iff (st : Status) : st.code.setWidth 32 = 0#32 ↔ st = .ok := by cases st <;> decide

theorem code_eq_nine_iff (st : Status) : st.code.setWidth 32 = 9#32 ↔ st = .errNomem := by cases st <;> decide

/-- Settles O38: a refusal writes `LASTERR` alone, the failed build `FATAL` too, and a completed command's status is 0. -/
theorem refusedCommandsChangeNothing : Obligations.RefusedCommandsChangeNothing := by
  unfold Obligations.RefusedCommandsChangeNothing
  intro i s t r hexec hout
  cases ends_of_exec hexec with
  | refused st hok hnomem =>
    obtain rfl : (⟨st.code.setWidth 32, 0⟩ : Response) = r := (List.cons.inj hout).1
    have hnine : (st.code.setWidth 32 == 9#32) = false :=
      beq_eq_false_iff_ne.2 fun h => hnomem ((code_eq_nine_iff st).1 h)
    refine ⟨fun _ => ?_, fun h => absurd ((code_eq_nine_iff st).1 h) hnomem,
      fun h => absurd ((code_eq_zero_iff st).1 h) hok⟩
    simp only [setWidth_code, BitVec.ofNat_eq_ofNat, hnine, Bool.or_false]
    rfl
  | failedBuild hi =>
    obtain rfl : (⟨Status.errNomem.code.setWidth 32, 0⟩ : Response) = r := (List.cons.inj hout).1
    refine ⟨fun _ => ?_, fun _ => hi, fun h => absurd h (by decide)⟩
    rw [show (Status.errNomem.code.setWidth 32 == (9 : Word)) = true from rfl, Bool.or_true]
    rfl
  | @completed u v h =>
    have hcons : (⟨0, v⟩ :: u.outbox : List Response) = r :: s.outbox := hout
    obtain rfl : (⟨0, v⟩ : Response) = r := (List.cons.inj hcons).1
    exact ⟨fun h0 => absurd rfl h0, fun h9 => absurd (show (0 : Word) = 9 from h9) (by decide),
      fun _ hi => h.lastErr hi⟩

/-! ### Steps and runs (R239, R276) -/

/-- A legal packet is the next command to run, over any meaning of the commands. -/
theorem serve_of_decode {run : Instr → State → Result} {s : State} {p : Packet} {b : Bool} {rest : List Event}
    {i : Instr} (h : s.inbox = .packet p b :: rest) (hd : decode p = .ok i) :
    serve run s = run i { s with inbox := rest, nfMemOk := b } := by
  simp [serve, State.takeEvent, State.withEnv, h, hd]

/-- An illegal packet is answered whatever the commands mean (R261). -/
theorem serve_of_illegal {run : Instr → State → Result} {s : State} {p : Packet} {b : Bool} {rest : List Event}
    {e : DecodeError} (h : s.inbox = .packet p b :: rest) (hd : decode p = .error e) :
    serve run s = .next ({ s with inbox := rest, nfMemOk := b }.errored .errIllegal) := by
  simp only [serve, State.takeEvent, State.withEnv, h, hd]
  rfl

theorem serve_of_reset {run : Instr → State → Result} {s : State} {rest : List Event} (h : s.inbox = .reset :: rest) :
    serve run s = .next { s with inbox := rest }.resetBlock := by
  simp [serve, State.takeEvent, h]

theorem serve_of_nothing {run : Instr → State → Result} {s : State} (h : s.inbox = []) : serve run s = .next s := by
  simp [serve, State.takeEvent, h]

/-- The commands are those of the default configuration (log entry 7). -/
theorem exec_eq_execAt (i : Instr) (s : State) : exec i s = execAt fse i s := by
  cases i <;> rfl

/-- Settles O7: a step serves the next packet, at every configuration. -/
theorem stepRunsDecoded : Obligations.StepRunsDecoded := by
  unfold Obligations.StepRunsDecoded
  have hexec : exec = execAt fse := funext fun i => funext fun s => exec_eq_execAt i s
  exact ⟨fun s p b rest i => serve_of_decode, fun c s p b rest i => serve_of_decode, exec_eq_execAt,
    fun s => congrArg (serve · s) hexec⟩

/-- A table word's bytes are those of its packet (R79). -/
theorem decode_of_decodeTableWord {nbits w : Nat} {i : Instr} (h : decodeTableWord nbits w = some i) :
    decode (Packet.ofTableWord nbits w) = .ok i := by
  rw [decodeTableWord, decodeBytes, packet_ofBytes_toBytes] at h
  dsimp only at h
  split at h
  · cases h; assumption
  · cases h

/-- Settles O8: with an empty inbox a step does nothing, and the delivered packet is the head of the inbox. -/
theorem onlyDeliveredCommandsRun : Obligations.OnlyDeliveredCommandsRun := by
  unfold Obligations.OnlyDeliveredCommandsRun
  refine ⟨fun s => serve_of_nothing, fun s nbits w i h => ?_⟩
  exact serve_of_decode (s := s.withFetchWord nbits w) rfl (decode_of_decodeTableWord h)

/-- Settles O9: the answer to an illegal packet in full. -/
theorem illegalPacketAnswered : Obligations.IllegalPacketAnswered := by
  unfold Obligations.IllegalPacketAnswered
  exact fun s p b rest e => serve_of_illegal

/-- Every command answers, so every step does. -/
theorem exec_next (i : Instr) (s : State) : ∃ t, exec i s = .next t := by
  have h := exec_ends i s
  generalize exec i s = r at h
  cases h <;> exact ⟨_, rfl⟩

theorem step_next (s : State) : ∃ t, step s = .next t := by
  obtain ⟨-, h⟩ | ⟨rest, -, h⟩ | ⟨p, b, rest, i, -, -, h⟩ | ⟨p, b, rest, e, -, -, h⟩ := serve_cases exec s
  · exact ⟨_, h⟩
  · exact ⟨_, h⟩
  · obtain ⟨t, ht⟩ := exec_next i { s with inbox := rest, nfMemOk := b }
    exact ⟨t, h.trans ht⟩
  · exact ⟨_, h⟩

/-- One step, then the others. -/
theorem run_succ (k : Nat) {s t : State} (h : step s = .next t) :
    Sys2Proof.core.run (k + 1) s = Sys2Proof.core.run k t := by
  have hstep : Sys2Proof.core.step s = .next t := h
  simp only [Host.Core.run, hstep]

/-- Settles O40: each step of a run has a next state. -/
theorem runsNeverStop : Obligations.RunsNeverStop := by
  unfold Obligations.RunsNeverStop
  intro s k
  induction k generalizing s with
  | zero => exact ⟨s, rfl⟩
  | succ k ih =>
    obtain ⟨t, ht⟩ := step_next s
    obtain ⟨u, hu⟩ := ih t
    exact ⟨u, (run_succ k ht).trans hu⟩

end Sys2Proof.Proofs
end

section
/-! Admission (spec/60_exceptions.md R260 to R269) and the commands that reset, build, construct, destroy and set
(spec/45_host_commands.md R221 to R226): the check that decides, or the state the rule gives. -/

namespace Sys2Proof.Proofs

open Sys2Proof Sys2Proof.Machine Sys2Proof.Laws

variable {s : State}

/-- Settles O1: each packet is decoded field by field. -/
theorem writtenWordsDecode : Obligations.WrittenWordsDecode := by
  unfold Obligations.WrittenWordsDecode
  decide

/-! ### The checks of R263 -/

/-- Step 2: in `FATAL` only three commands are served. -/
theorem exec_of_fatal {i : Instr} (hf : s.fatal = true) (hi : ¬ servedInFatal i) :
    exec i s = .next (s.errored .errFatal) := by
  cases i with
  | nop | shutdown | rdcsr => simp [servedInFatal] at hi
  | nfbuild => exact admitNotFatal_of_fatal hf
  | construct | nfsample | nfread => exact admitField_of_fatal hf
  | destroy | setp | getp | process | wrpx | rdpx | rngnext | rngunif | rngbound => exact admitInstance_of_fatal hf

/-- Step 3. -/
theorem exec_of_not_ready {i : Instr} (hf : s.fatal = false) (hi : needsField i) (hr : s.nfReady = false) :
    exec i s = .next (s.errored .errNotReady) := by
  obtain ⟨w, h, rfl⟩ | ⟨k, a, sh, rfl⟩ | ⟨n, rfl⟩ := hi <;> exact admitField_of_not_ready hf hr

/-- Step 4. -/
theorem exec_of_no_instance {i : Instr} (hf : s.fatal = false) (hi : needsInstance i) (hv : s.instValid = false) :
    exec i s = .next (s.errored .errNoInstance) := by
  cases i with
  | destroy | setp | getp | process | wrpx | rdpx | rngnext | rngunif | rngbound =>
    exact admitInstance_of_no_instance hf hv
  | nop | nfbuild | shutdown | construct | nfsample | nfread | rdcsr => simp [needsInstance] at hi

theorem exec_construct_of_instance (w h : Word) (hs : s.FieldLive) (hi : s.instValid = true) :
    exec (.construct w h) s = .next (s.errored .errExists) := by
  show constructAt fse w h s = _
  rw [constructAt, admitField_of_fieldLive hs]
  exact if_pos hi

/-- The two dimension checks of `CONSTRUCT` are R223's. -/
theorem legalDim_and_legalDim_iff (w h : Word) :
    (legalDim fse (u32 w) && legalDim fse (u32 h)) = true ↔ LegalFrame w h := by
  rw [Bool.and_eq_true, legalDim_iff, legalDim_iff]
  simp only [LegalFrame, u32, and_assoc]

theorem exec_construct_of_illegal {w h : Word} (hs : s.FieldLive) (hi : s.instValid = false)
    (hd : ¬ LegalFrame w h) :
    exec (.construct w h) s = .next (s.errored .errDim) := by
  show constructAt fse w h s = _
  rw [constructAt, admitField_of_fieldLive hs, hi, if_neg Bool.false_ne_true,
    if_neg (mt (legalDim_and_legalDim_iff w h).1 hd)]
  rfl

theorem exec_setp_of_param {sel : Nat} (p : Param) (v : Word) (hs : s.Live) (h : Param.ofSel sel = some p) :
    exec (.setp sel v) s = .next ((s.setParam p v).answered 0) := by
  show execSetp sel v s = _
  rw [execSetp, admitInstance_of_live hs, h]
  rfl

theorem exec_setp_of_no_param {sel : Nat} (v : Word) (hs : s.Live) (h : Param.ofSel sel = none) :
    exec (.setp sel v) s = .next (s.errored .errIndex) := by
  show execSetp sel v s = _
  rw [execSetp, admitInstance_of_live hs, h]
  rfl

/-- Settles O37: the checks one by one, each with the earlier ones passed. -/
theorem checksDecideInOrder : Obligations.ChecksDecideInOrder := by
  unfold Obligations.ChecksDecideInOrder
  refine fun s => ⟨fun p b rest e => serve_of_illegal, fun i => exec_of_fatal, fun i => exec_of_not_ready,
    fun i => exec_of_no_instance, fun w h => exec_construct_of_instance w h,
    fun sel x y v hs => ⟨fun h => ?_, fun h => ?_⟩,
    fun sel => exec_rdcsr_of_reserved s, fun w h => exec_construct_of_illegal,
    fun sel p x y v hs hp => ⟨exec_wrpx_of_out_of_range hs hp, exec_rdpx_of_out_of_range hs hp⟩,
    fun k a sh => exec_nfsample_of_shift_too_large k a, fun n => exec_nfread_of_index_too_large⟩
  · exact ⟨exec_setp_of_no_param v hs (paramOfSel_eq_none h), exec_getp_of_no_param hs (paramOfSel_eq_none h)⟩
  · exact ⟨exec_wrpx_of_no_plane x y v hs (planeOfSel_eq_none h), exec_rdpx_of_no_plane x y hs (planeOfSel_eq_none h)⟩

/-! ### Reset and `SHUTDOWN` (R40, R222, R290) -/

theorem resetBlock_atReset (s : State) : s.resetBlock.AtReset := by
  unfold State.AtReset
  exact ⟨rfl, rfl, rfl, rfl, rfl, rfl, rfl, rfl, rfl, rfl, rfl, rfl, rfl, rfl, rfl, rfl, rfl, rfl, rfl, rfl, rfl⟩

/-- Planes that list nothing read as the free bytes of their epoch (log entry 4). -/
theorem readPlane_of_nothing_listed (hy : s.ym = []) (hb : s.cb = []) (hr : s.cr = []) (p : Plane) (a : Nat) :
    s.readPlane p a = Config.freePlaneByte s.epoch p.number a := by
  have hmem : s.memory p = [] := by rcases p with _ | _ | _ <;> assumption
  rw [State.readPlane, hmem, read_nil, Option.getD_none]

theorem exec_shutdown (s : State) : exec .shutdown s = .next (s.resetBlock.answered 0) := rfl

/-- Settles O10: `resetBlock` is the reset state with the host's side of the port kept. -/
theorem resetAndShutdownLeaveTheTable : Obligations.ResetAndShutdownLeaveTheTable := by
  unfold Obligations.ResetAndShutdownLeaveTheTable
  refine ⟨resetBlock_atReset State.reset, fun s rest h => ?_, fun s => ?_⟩
  · exact ⟨_, serve_of_reset h, resetBlock_atReset _, rfl, rfl, rfl, readPlane_of_nothing_listed rfl rfl rfl⟩
  · exact ⟨_, exec_shutdown s, resetBlock_atReset s, rfl, rfl, rfl, readPlane_of_nothing_listed rfl rfl rfl⟩

/-! ### `NFBUILD` (R221) -/

theorem exec_nfbuild_of_ready (hs : s.FieldLive) : exec .nfbuild s = .next (s.answered 0) := by
  show nfbuildAt fse s = _
  rw [nfbuildAt, admitNotFatal_ok hs.1]
  exact if_pos hs.2

theorem exec_nfbuild_of_no_memory (hf : s.fatal = false) (hr : s.nfReady = false) (hm : s.nfMemOk = false) :
    exec .nfbuild s = .next ({ s with fatal := true }.errored .errNomem) := by
  show nfbuildAt fse s = _
  rw [nfbuildAt, admitNotFatal_ok hf, if_neg (Bool.eq_false_iff.1 hr), if_neg (Bool.eq_false_iff.1 hm)]
  rfl

theorem exec_nfbuild_of_memory (hf : s.fatal = false) (hr : s.nfReady = false) (hm : s.nfMemOk = true) :
    exec .nfbuild s = .next ({ nfBuild fse s with nfReady := true }.answered 0) := by
  show nfbuildAt fse s = _
  rw [nfbuildAt, admitNotFatal_ok hf, if_neg (Bool.eq_false_iff.1 hr), if_pos hm]
  rfl

/-- Settles O12: the checks and the environment input decide among the four; the built lattice is ready. -/
theorem nfbuildOutcomes : Obligations.NfbuildOutcomes := by
  unfold Obligations.NfbuildOutcomes
  refine fun s => ⟨admitNotFatal_of_fatal, fun hf hr => exec_nfbuild_of_ready ⟨hf, hr⟩, exec_nfbuild_of_no_memory,
    fun hf hr hm => ⟨_, exec_nfbuild_of_memory hf hr hm, rfl, fun i hi => ?_⟩⟩
  exact lattice_of_ready (s := { nfBuild fse s with nfReady := true }.answered 0) ⟨hf, rfl⟩ (fun _ => rfl) hi

/-! ### The `FATAL` state (R269) -/

/-- A failed build is the one command that enters `FATAL`. -/
theorem failed_build_of_fatal {i : Instr} {t : State} (hf : s.fatal = false) (h : exec i s = .next t)
    (ht : t.fatal = true) : i = .nfbuild ∧ s.nfMemOk = false ∧ s.nfReady = false := by
  cases ends_of_exec h with
  | refused => exact absurd ht (by simp [State.errored, hf])
  | failedBuild hi _ hr hm => exact ⟨hi, hm, hr⟩
  | completed hc => exact absurd ht (by simp [State.answered, hc.fatal hf])

/-- An instance needs the lattice (R42 i). -/
theorem instValid_of_not_ready (hs : s.FlagsOk) (hr : s.nfReady = false) : s.instValid = false :=
  Bool.eq_false_iff.2 fun hi => Bool.eq_false_iff.1 hr (hs.1 hi)

/-- In `FATAL` the other two flags are down (R42 ii), so `STATUS` is its bit alone. -/
theorem statusWord_of_fatal (hf : s.fatal = true) (hs : s.FlagsOk) : s.statusWord = 4 := by
  obtain ⟨hr, hi⟩ := hs.2 hf
  apply BitVec.eq_of_toNat_eq
  rw [statusWord_toNat, hf, hr, hi]
  rfl

/-- Settles O14: the entry is read off the ways a command ends; the answers are those of the checks and of the three
commands that are served. -/
theorem fatalStateInFull : Obligations.FatalStateInFull := by
  unfold Obligations.FatalStateInFull
  refine ⟨fun i s t hf h ht => ?enter, fun s hf => ⟨complete_eq s 0, fun sel r => exec_rdcsr_of_csr s r,
    fun hs => ?status, exec_rdcsr_of_csr s .lastErr rfl, ⟨_, exec_shutdown s, resetBlock_atReset s, rfl⟩,
    fun i => exec_of_fatal hf, fun p b rest e => serve_of_illegal⟩⟩
  case enter =>
    obtain ⟨hi, hm, hr⟩ := failed_build_of_fatal hf h ht
    exact ⟨hi, hm, hr, fun hs => instValid_of_not_ready hs hr⟩
  case status => rw [exec_rdcsr_of_csr s .status rfl, readCsr, statusWord_of_fatal hf hs]

/-! ### `CONSTRUCT` and `DESTROY` (R223, R225) -/

/-- The dimension registers hold a legal frame's dimensions whole. -/
theorem newInstance_dims {w h : Word} (hd : LegalFrame w h) (s : State) :
    (newInstance fse w.toNat h.toNat s).width.toNat = w.toNat ∧
    (newInstance fse w.toNat h.toNat s).height.toNat = h.toNat ∧
    (newInstance fse w.toNat h.toNat s).cw.toNat = w.toNat / 2 ∧
    (newInstance fse w.toNat h.toNat s).ch.toNat = h.toNat / 2 := by
  obtain ⟨-, -, hw, -, -, hh⟩ := hd
  simp only [newInstance, BitVec.toNat_ofNat]
  omega

/-- Settles O15: the new instance holds the dimensions whole and the defaults; its planes list nothing. -/
theorem constructMakesTheInstance : Obligations.ConstructMakesTheInstance := by
  unfold Obligations.ConstructMakesTheInstance
  intro s w h hs hi hd
  obtain ⟨hw, hh, hcw, hch⟩ := newInstance_dims hd s
  exact ⟨_, exec_construct_of_legal hs hi hd, hw, hh, hcw, hch, rfl, rfl, rfl, rfl, rfl, rfl, rfl, rfl, rfl, rfl, rfl,
    rfl, rfl, rfl, rfl, rfl, rfl, rfl, readPlane_of_nothing_listed rfl rfl rfl⟩

/-- Settles O16: the checks decide; 4098 is above the largest dimension, and so is 0x10000040, read whole. -/
theorem constructRefusals : Obligations.ConstructRefusals := by
  unfold Obligations.ConstructRefusals
  refine fun s w h => ⟨admitField_of_fatal, admitField_of_not_ready, exec_construct_of_instance w h,
    exec_construct_of_illegal, fun hs hi => ⟨exec_construct_of_illegal hs hi ?_, exec_construct_of_illegal hs hi ?_⟩⟩ <;>
  unfold LegalFrame <;> decide

theorem exec_destroy_of_live (hs : s.Live) : exec .destroy s = .next ((dropInstance s).answered 0) := by
  show execDestroy s = _
  rw [execDestroy, admitInstance_of_live hs]
  rfl

/-- Settles O17: the checks decide; the released block has no instance, so a `CONSTRUCT` is admitted there. -/
theorem destroyReleasesTheInstance : Obligations.DestroyReleasesTheInstance := by
  unfold Obligations.DestroyReleasesTheInstance
  refine ⟨by decide, fun s => ⟨admitInstance_of_fatal, admitInstance_of_no_instance, fun hs => ?_⟩⟩
  refine ⟨_, exec_destroy_of_live hs, rfl, rfl, rfl, rfl, rfl, rfl, rfl, rfl, rfl, rfl, rfl, rfl, rfl, rfl, rfl, rfl, rfl,
    rfl, rfl, rfl, rfl, rfl, readPlane_of_nothing_listed rfl rfl rfl, fun hr w h hd => ?_⟩
  have hfield : ((dropInstance s).answered 0).FieldLive := ⟨hs.1, hr⟩
  exact ⟨_, exec_construct_of_legal hfield rfl hd, rfl, rfl, rfl⟩

/-! ### `SETP` (R226) and a byte written and read (R57) -/

/-- Settles O18: the checks decide, and the selected control takes the word. -/
theorem setpWritesOneControl : Obligations.SetpWritesOneControl := by
  unfold Obligations.SetpWritesOneControl
  refine ⟨by decide, by decide, fun s sel v => ⟨admitInstance_of_fatal, admitInstance_of_no_instance,
    fun hs hsel => exec_setp_of_no_param v hs (paramOfSel_eq_none hsel), fun hs => ?_⟩⟩
  exact ⟨exec_setp_of_param .rnd v hs rfl, exec_setp_of_param .edge v hs rfl, exec_setp_of_param .sat v hs rfl,
    exec_setp_of_param .noise v hs rfl⟩

/-- A value of at most 255 survives the byte it is stored in. -/
theorem setWidth_byte {v : Word} (h : v.toNat ≤ 255) : (BitVec.ofNat 8 v.toNat).setWidth 32 = v := by
  apply BitVec.eq_of_toNat_eq
  rw [BitVec.toNat_setWidth, BitVec.toNat_ofNat]
  omega

/-- The response of a command is in no dimension register. -/
theorem planeWidth_answered (s : State) (v : Word) (p : Plane) : (s.answered v).planeWidth p = s.planeWidth p := by
  cases p <;> rfl

theorem planeHeight_answered (s : State) (v : Word) (p : Plane) : (s.answered v).planeHeight p = s.planeHeight p := by
  cases p <;> rfl

/-- Settles O23: the byte read is the one written, in a plane of the same width. -/
theorem wrpxThenRdpxAnswersTheValue : Obligations.WrpxThenRdpxAnswersTheValue := by
  unfold Obligations.WrpxThenRdpxAnswersTheValue
  intro s sel p x y v hs hp hx hy hv
  refine ⟨_, exec_wrpx_of_in_range hs hp hx hy hv, ?_⟩
  have hlive (a : Nat) (b : Byte) : ((s.writePlane p a b).answered 0).Live :=
    ⟨(writePlane_fatal ..).trans hs.1, (writePlane_instValid ..).trans hs.2⟩
  have hwidth (a : Nat) (b : Byte) : ((s.writePlane p a b).answered 0).planeWidth p = s.planeWidth p :=
    (planeWidth_answered ..).trans (planeWidth_writePlane ..)
  have hheight (a : Nat) (b : Byte) : ((s.writePlane p a b).answered 0).planeHeight p = s.planeHeight p :=
    (planeHeight_answered ..).trans (planeHeight_writePlane ..)
  rw [exec_rdpx_of_in_range (hlive _ _) hp (by rwa [hwidth]) (by rwa [hheight]), hwidth, readPlane_answered,
    readPlane_writePlane, if_pos ⟨rfl, rfl⟩, setWidth_byte hv]

end Sys2Proof.Proofs
end

section
/-! The fire state of one flare (spec/44_fire_engine.md R184 to R192): what an ignition stores, how a continuation
changes it, and the derived state machine over one column. -/

namespace Sys2Proof.Proofs

open Sys2Proof Sys2Proof.Machine Sys2Proof.Laws

/-- Settles O45: each row of the pair takes its own clamped sum. -/
theorem pixelAddBleedsToTheRowPair : Obligations.PixelAddBleedsToTheRowPair := by
  unfold Obligations.PixelAddBleedsToTheRowPair
  exact fun pl cy cx d s hcw => ⟨toNat_chromaAt_pixAdd2 pl cy cy cx d s hcw (.inl rfl),
    toNat_chromaAt_pixAdd2 pl (cy + 1) cy cx d s hcw (.inr rfl), fun q a => pixAdd2_readPlane_other pl cy cx d s⟩

/-! ### What an ignition stores (R190) -/

/-- The intensity is a fraction below 1 of the room above the pixel. -/
theorem igniteFire_lt {c : Config} {pix : Nat} (h : pix < c.fireCeil) (ui : Word) :
    igniteFire c ui pix < c.fireCeil - pix :=
  Nat.div_lt_of_lt_mul (Nat.mul_lt_mul_of_pos_right ui.isLt (Nat.sub_pos_of_lt h))

theorem igniteFire_fse_eq (ui : Word) (pix : Nat) : igniteFire fse ui pix = ui.toNat * (256 - pix) / 2 ^ 32 := rfl

/-- At the defaults the intensity above any byte is in the range of `FIRE` (R28). -/
theorem igniteFire_fse_le (ui : Word) (pix : Byte) : igniteFire fse ui pix.toNat ≤ 255 := by
  have hpix := pix.isLt
  have hceil : fse.fireCeil = 256 := rfl
  have hlt := igniteFire_lt (c := fse) (pix := pix.toNat) (by omega) ui
  omega

theorem igniteStep_fse_eq (pix : Nat) : igniteStep fse pix = max 4 ((256 - pix) / 8) := rfl

/-- At the defaults a step is in the range of `STEP` (R28). -/
theorem igniteStep_fse_mem (pix : Nat) : 4 ≤ igniteStep fse pix ∧ igniteStep fse pix ≤ 32 := by
  rw [igniteStep_fse_eq]
  omega

theorem flareIgnite_fse_fire (pl : Chroma) (cy cx : Nat) (ui : Word) (s : State) :
    (flareIgnite fse pl cy cx ui s).fire.toInt = igniteFire fse ui (s.chromaAt pl cy cx).toNat :=
  toInt_ofNat_fire (Nat.lt_of_le_of_lt (igniteFire_fse_le ui _) (by decide))

theorem flareIgnite_fse_fireStep (pl : Chroma) (cy cx : Nat) (ui : Word) (s : State) :
    (flareIgnite fse pl cy cx ui s).fireStep.toNat = igniteStep fse (s.chromaAt pl cy cx).toNat := by
  have hstep := (igniteStep_fse_mem (s.chromaAt pl cy cx).toNat).2
  exact Nat.mod_eq_of_lt (by omega)

theorem flareIgnite_ign {cx : Nat} (h : cx < 2048) (c : Config) (pl : Chroma) (cy : Nat) (ui : Word) (s : State) :
    (flareIgnite c pl cy cx ui s).ign.toNat = cx := Nat.mod_eq_of_lt h

/-- Settles O48: the registers hold the intensity, the step and the column whole; the rest is the room above a byte. -/
theorem ignitionSetsTheFireState : Obligations.IgnitionSetsTheFireState := by
  unfold Obligations.IgnitionSetsTheFireState
  refine ⟨fun pl cy cx ui s hcx => ⟨?fire, flareIgnite_fse_fireStep pl cy cx ui s, flareIgnite_ign hcx fse pl cy ui s⟩,
    fun c hc ui pix => ?room, fun ui => ⟨?full, by decide, igniteFire_fse_le ui 0, by decide⟩, by decide, by decide⟩
  case fire =>
    have hpix : (s.chromaAt pl cy cx).toNat ≤ 256 := (s.chromaAt pl cy cx).isLt.le
    rw [flareIgnite_fse_fire, igniteFire_fse_eq, Int.natCast_ediv, Nat.cast_mul, Nat.cast_sub hpix]
    rfl
  case room =>
    have hpix := pix.isLt
    have hceil := hc.fireCeil
    exact ⟨by omega, igniteFire_lt (by omega) ui, Nat.le_max_left _ _⟩
  case full =>
    have hlt := igniteFire_lt (c := fse) (pix := 255) (by decide) ui
    exact Nat.lt_one_iff.1 hlt

/-! ### Continuation (R186, R187) -/

/-- Settles O47: in the ramp `FIRE` stays; in the decay the difference fits `FIRE`; both add to the row pair. -/
theorem flareContinuesByRampOrDecay : Obligations.FlareContinuesByRampOrDecay := by
  unfold Obligations.FlareContinuesByRampOrDecay
  rintro pl cy cx s ⟨hlo, hhi, hstep, -⟩ hcw
  refine ⟨fun hdx => ?ramp, fun hdx => ?decay⟩
  case ramp =>
    rw [flareCont_of_ramp (c := fse) hdx]
    exact ⟨pixAdd2_fire .., pixAdd2_fireStep .., pixAdd2_ign .., fun y => toNat_chromaAt_pixAdd2 pl y cy cx _ s hcw⟩
  case decay =>
    rw [flareCont_of_decay (c := fse) hdx]
    exact ⟨toInt_ofInt_fire (by omega), pixAdd2_fireStep .., pixAdd2_ign ..,
      fun y => toNat_chromaAt_pixAdd2 pl y cy cx _ s hcw⟩

/-! ### The ranges of R28 and R29 over one column -/

/-- `FIRE` falls below 16 by at most one step, and a step is at most 32 (R28). -/
theorem flareCont_fireOk {s : State} (h : s.FireOk) (hlit : 16 ≤ s.fire.toInt) (pl : Chroma) (cy cx : Nat) :
    (flareCont fse pl cy cx s).FireOk := by
  obtain ⟨hlo, hhi, hstep, hphase⟩ := h
  unfold State.FireOk
  rw [flareCont_fireStep, flareCont_phase]
  rcases lt_or_ge (flareDx s cx) fse.rampLen with hdx | hdx
  · rw [flareCont_of_ramp hdx, pixAdd2_fire]
    exact ⟨hlo, hhi, hstep, hphase⟩
  · have hfire : (flareCont fse pl cy cx s).fire.toInt = s.fire.toInt - s.fireStep.toNat := by
      rw [flareCont_of_decay hdx]
      exact toInt_ofInt_fire (by omega)
    rw [hfire]
    exact ⟨by omega, by omega, hstep, hphase⟩

theorem ignStep_fireOk {s : State} (h : s.FireOk) (pl : Chroma) (cy cx : Nat) (e : Int) :
    (ignStep fse pl cy cx e s).FireOk := by
  rcases ignStep_cases fse pl cy cx e s with heq | heq <;> rw [heq]
  · exact h
  · obtain ⟨-, -, -, hphase⟩ := h
    have hfire := igniteFire_fse_le (rngRaw fse (rngAdvance s)) (s.chromaAt pl cy cx)
    unfold State.FireOk
    rw [flareIgnite_fse_fire, flareIgnite_fse_fireStep]
    exact ⟨by omega, by exact_mod_cast hfire, .inr (igniteStep_fse_mem _), hphase⟩

/-- The fire state of another state, for operations that do not touch it. -/
theorem fireOk_of_eq {s t : State} (h : s.FireOk) (hfire : t.fire = s.fire) (hstep : t.fireStep = s.fireStep)
    (hphase : t.phase = s.phase) : t.FireOk := by
  unfold State.FireOk
  rwa [hfire, hstep, hphase]

theorem noiseInject_fireOk {s : State} (h : s.FireOk) (c : Config) (pl : Chroma) (cy cx : Nat) :
    (noiseInject c pl cy cx s).FireOk :=
  fireOk_of_eq h (noiseInject_fire ..) (noiseInject_fireStep ..) (noiseInject_phase ..)

theorem column_fireOk {s : State} (h : s.FireOk) (pl : Chroma) (cy cx : Nat) : (column fse pl cy cx s).FireOk := by
  have hn := noiseInject_fireOk h fse pl cy cx
  rcases column_cases fse pl cy cx s with ⟨hlit, hcol⟩ | ⟨-, hcol⟩ <;> rw [hcol]
  · exact flareCont_fireOk hn (by rwa [noiseInject_fire]) pl cy cx
  · exact ignStep_fireOk hn pl cy cx _

/-! ### The derived state machine (R192) -/

theorem flareState_eq_idle_iff (s : State) (cx : Nat) : flareState fse s cx = .idle ↔ s.fire.toInt < 16 := by
  unfold flareState
  split_ifs <;> simp_all [fse]

theorem flareState_of_lit {s : State} (h : 16 ≤ s.fire.toInt) (cx : Nat) :
    flareState fse s cx = if flareDx s cx < 6 then .ramping else .decaying := if_neg (not_lt.2 h)

theorem flareDx_succ (s : State) (cx : Nat) : flareDx s (cx + 1) = flareDx s cx + 1 := by
  unfold flareDx
  omega

theorem flareDx_of_ign_eq {s t : State} (h : t.ign = s.ign) (cx : Nat) : flareDx t cx = flareDx s cx := by
  unfold flareDx
  rw [h]

/-- Without a flare the column draws twice; an ignition at it is at distance 1 from the next column. -/
theorem column_of_idle_moves {s : State} {cx : Nat} (hidle : s.fire.toInt < 16) (hign : s.ign.toNat ≤ cx)
    (hcx : cx < 2048) (pl : Chroma) (cy : Nat) :
    (column fse pl cy cx s).ign.toNat ≤ cx ∧ flareState fse (column fse pl cy cx s) (cx + 1) ≠ .decaying ∧
      (column fse pl cy cx s).rngCtr = s.rngCtr + 2 := by
  rw [column_of_idle (c := fse) hidle]
  generalize edgeValue fse (noiseInject fse pl cy cx s) cy cx = e
  have hstill (t : State) (ht : t.fire.toInt < 16) (x : Nat) : flareState fse t x ≠ .decaying := by
    rw [(flareState_eq_idle_iff t x).2 ht]
    decide
  rcases ignStep_cases fse pl cy cx e (noiseInject fse pl cy cx s) with heq | heq <;> rw [heq]
  · exact ⟨by simpa using hign, hstill _ (by simpa using hidle) _, by simp [BitVec.add_assoc]⟩
  · refine ⟨(flareIgnite_ign hcx ..).le, ?_, by simp [BitVec.add_assoc]⟩
    generalize rngAdvance (rngAdvance (noiseInject fse pl cy cx s)) = t
    generalize rngRaw fse (rngAdvance (noiseInject fse pl cy cx s)) = ui
    rcases lt_or_ge (flareIgnite fse pl cy cx ui t).fire.toInt 16 with hdark | hlit
    · exact hstill _ hdark _
    · rw [flareState_of_lit hlit, flareDx_flareIgnite hcx, if_pos (by omega)]
      decide

/-- With a flare the column does not draw and keeps `IGN`, so the next column is one further from the ignition. -/
theorem column_of_flare_keeps {s : State} (hlit : 16 ≤ s.fire.toInt) (pl : Chroma) (cy cx : Nat) :
    (column fse pl cy cx s).ign = s.ign ∧ (column fse pl cy cx s).rngCtr = s.rngCtr ∧
      (flareDx s cx < 6 → (column fse pl cy cx s).fire = s.fire) ∧
      (s.FireOk → 6 ≤ flareDx s cx → (column fse pl cy cx s).fire.toInt = s.fire.toInt - s.fireStep.toNat) := by
  have hdx : flareDx (noiseInject fse pl cy cx s) cx = flareDx s cx := flareDx_of_ign_eq (noiseInject_ign ..) cx
  rw [column_of_flare (c := fse) hlit]
  refine ⟨by simp, by simp, fun h => ?_, fun hok h => ?_⟩
  · rw [← hdx] at h
    rw [flareCont_of_ramp (c := fse) h, pixAdd2_fire, noiseInject_fire]
  · obtain ⟨-, hhi, hstep, -⟩ := hok
    rw [← hdx] at h
    rw [flareCont_of_decay (c := fse) h, noiseInject_fire, noiseInject_fireStep]
    exact toInt_ofInt_fire (by omega)

/-- Settles O51: the branch a column takes is the state's, and the next state is read off the registers it leaves. -/
theorem flareStatesMoveAsTheRuleSays : Obligations.FlareStatesMoveAsTheRuleSays := by
  unfold Obligations.FlareStatesMoveAsTheRuleSays
  intro pl cy cx s hok hign hcx
  rcases lt_or_ge s.fire.toInt 16 with hidle | hlit
  · have hstate := (flareState_eq_idle_iff s cx).2 hidle
    obtain ⟨hign', hmove⟩ := column_of_idle_moves hidle hign hcx pl cy
    exact ⟨column_fireOk hok pl cy cx, hign', fun _ => hmove, fun h => absurd (hstate.symm.trans h) (by decide),
      fun h => absurd (hstate.symm.trans h) (by decide)⟩
  · obtain ⟨hkeep, hctr, hramp, hdecay⟩ := column_of_flare_keeps hlit pl cy cx
    have hdx : flareDx (column fse pl cy cx s) (cx + 1) = flareDx s cx + 1 := by
      rw [flareDx_of_ign_eq hkeep, flareDx_succ]
    refine ⟨column_fireOk hok pl cy cx, hkeep ▸ hign, ?_⟩
    rw [flareState_of_lit hlit]
    rcases lt_or_ge (flareDx s cx) 6 with h6 | h6
    · rw [if_pos h6]
      refine ⟨fun h => absurd h (by decide), fun _ => ⟨?_, hctr⟩, fun h => absurd h (by decide)⟩
      rw [flareState_of_lit (by rwa [hramp h6]), hdx]
    · rw [if_neg (not_lt.2 h6)]
      refine ⟨fun h => absurd h (by decide), fun h => absurd h (by decide), fun _ => ⟨?_, hctr⟩⟩
      have hfire := hdecay hok h6
      split
      · rw [flareState_of_lit (by omega), hdx, if_neg (by omega)]
      · exact (flareState_eq_idle_iff _ _).2 (by omega)

end Sys2Proof.Proofs
end

section
/-! The invariant (spec/10_state.md R42): it holds at reset, every command and so every step keeps it, and so it holds
in every reachable state. -/

namespace Sys2Proof.Proofs

open Sys2Proof Sys2Proof.Machine Sys2Proof.Laws

/-! ### The plane memories (R50) -/

/-- The memory of a plane is in canonical form and lists no address outside the plane. -/
def PlaneOk (s : State) (p : Plane) : Prop :=
  (s.memory p).wf ∧ ∀ e ∈ s.memory p, e.1 < s.planeWidth p * s.planeHeight p

theorem memoryOk_iff (s : State) : s.MemoryOk ↔ s.nf.wf ∧ ∀ p, PlaneOk s p := by
  constructor
  · rintro ⟨hnf, hy, hb, hr, hy', hb', hr'⟩
    refine ⟨hnf, fun p => ?_⟩
    rcases p with _ | _ | _
    · exact ⟨hy, hy'⟩
    · exact ⟨hb, hb'⟩
    · exact ⟨hr, hr'⟩
  · rintro ⟨hnf, h⟩
    obtain ⟨hy, hy'⟩ := h .luma
    obtain ⟨hb, hb'⟩ := h (.chroma .cb)
    obtain ⟨hr, hr'⟩ := h (.chroma .cr)
    exact ⟨hnf, hy, hb, hr, hy', hb', hr'⟩

/-- Planes that list nothing are in order at any dimensions. -/
theorem memoryOk_of_nothing_listed {s : State} (hnf : s.nf.wf) (hy : s.ym = []) (hb : s.cb = []) (hr : s.cr = []) :
    s.MemoryOk := by
  simp [State.MemoryOk, hnf, hy, hb, hr]

/-- A write inside its plane keeps every plane in order. -/
theorem planeOk_writePlane {s : State} {p q : Plane} {a : Nat} (v : Byte) (h : PlaneOk s q)
    (ha : a < s.planeWidth p * s.planeHeight p) : PlaneOk (s.writePlane p a v) q := by
  obtain ⟨hwf, hbelow⟩ := h
  unfold PlaneOk
  rw [memory_writePlane, planeWidth_writePlane, planeHeight_writePlane]
  split
  · subst_vars
    exact ⟨write_wf hwf a v, write_below hbelow ha⟩
  · exact ⟨hwf, hbelow⟩

/-- Planes in order, for operations that write none of them. -/
theorem planeOk_of_planes {s t : State} {p : Plane} (h : PlaneOk s p) (hf : EngineFrame s t) (hb : t.cb = s.cb)
    (hr : t.cr = s.cr) : PlaneOk t p := by
  have hmem : t.memory p = s.memory p := by rcases p with _ | _ | _ <;> simp only [State.memory, hf.ym, hb, hr]
  have hw : t.planeWidth p = s.planeWidth p := by cases p <;> simp only [State.planeWidth, hf.width, hf.cw]
  have hh : t.planeHeight p = s.planeHeight p := by cases p <;> simp only [State.planeHeight, hf.height, hf.ch]
  unfold PlaneOk
  rwa [hmem, hw, hh]

theorem planeOk_pixAddSat {s : State} {p : Plane} (h : PlaneOk s p) (pl : Chroma) (d : Int) {y x : Nat}
    (hy : y < s.ch.toNat) (hx : x < s.cw.toNat) : PlaneOk (pixAddSat pl y x d s) p :=
  planeOk_writePlane _ h (chroma_pixelAddr_lt pl hy hx)

theorem planeOk_pixAdd2 {s : State} {p : Plane} (h : PlaneOk s p) (pl : Chroma) (d : Int) {cy cx : Nat}
    (hcy : cy + 1 < s.ch.toNat) (hcx : cx < s.cw.toNat) : PlaneOk (pixAdd2 pl cy cx d s) p :=
  planeOk_pixAddSat (planeOk_pixAddSat h pl d (Nat.lt_of_succ_lt hcy) hcx) pl d (by simpa using hcy) (by simpa using hcx)

theorem planeOk_noiseInject {s : State} {p : Plane} (h : PlaneOk s p) (c : Config) (pl : Chroma) {cy cx : Nat}
    (hcy : cy + 1 < s.ch.toNat) (hcx : cx < s.cw.toNat) : PlaneOk (noiseInject c pl cy cx s) p := by
  unfold noiseInject
  split
  · exact planeOk_pixAdd2 h pl _ hcy hcx
  · exact h

theorem planeOk_flareCont {s : State} {p : Plane} (h : PlaneOk s p) (c : Config) (pl : Chroma) {cy cx : Nat}
    (hcy : cy + 1 < s.ch.toNat) (hcx : cx < s.cw.toNat) : PlaneOk (flareCont c pl cy cx s) p := by
  unfold flareCont
  split
  · exact planeOk_pixAdd2 h pl _ hcy hcx
  · have hadd := planeOk_pixAdd2 h pl s.fire.toInt hcy hcx
    exact planeOk_of_planes hadd (by constructor <;> rfl) rfl rfl

/-- A column step of the traversal writes inside its plane. -/
theorem planeOk_column {s : State} {p : Plane} (h : PlaneOk s p) (c : Config) (pl : Chroma) {cy cx : Nat}
    (hcy : cy + 1 < s.ch.toNat) (hcx : cx < s.cw.toNat) : PlaneOk (column c pl cy cx s) p := by
  have hn := planeOk_noiseInject h c pl hcy hcx
  rcases column_cases c pl cy cx s with ⟨-, hcol⟩ | ⟨-, hcol⟩ <;> rw [hcol]
  · exact planeOk_flareCont hn c pl (by simpa using hcy) (by simpa using hcx)
  · obtain ⟨hb, hr⟩ := ignStep_planes c pl cy cx (edgeValue c (noiseInject c pl cy cx s) cy cx)
      (noiseInject c pl cy cx s)
    exact planeOk_of_planes hn (frame_ignStep ..) hb hr

/-! ### `PROCESS` -/

/-- The phase draw is below its bound, which `PHASE` holds (R29, R194). -/
theorem passStart_fireOk (s : State) : (passStart fse s).FireOk := by
  have hbound : fse.phaseBound = 65536 := by decide
  have hdraw := boundedOf_lt (rngRaw fse s) (n := fse.phaseBound) (by decide)
  unfold State.FireOk
  rw [passStart_fire, passStart_fireStep, passStart_phase, BitVec.toNat_ofNat, Nat.mod_eq_of_lt (by omega)]
  exact ⟨by decide, by decide, .inl rfl, hdraw⟩

/-- One state, taken twice, whose planes and fire state are in order. -/
structure EngineOk (s t : State) : Prop where
  twice : t = s
  planes : ∀ p, PlaneOk s p
  fire : s.FireOk

/-- An operation that writes neither a plane nor the fire state. -/
theorem EngineOk.of_planes {s s' t : State} (h : EngineOk s t) (hf : EngineFrame s s') (hb : s'.cb = s.cb)
    (hr : s'.cr = s.cr) (hfire : s'.FireOk) : EngineOk s' s' :=
  ⟨rfl, fun p => planeOk_of_planes (h.planes p) hf hb hr, hfire⟩

theorem engineOk_traversalRel : TraversalRel fse EngineOk where
  dims h := by rw [h.twice]; exact ⟨rfl, rfl⟩
  setCy _ h := by obtain rfl := h.twice; exact h.of_planes (by constructor <;> rfl) rfl rfl h.fire
  setPl _ h := by obtain rfl := h.twice; exact h.of_planes (by constructor <;> rfl) rfl rfl h.fire
  setCx _ h := by obtain rfl := h.twice; exact h.of_planes (frame_setCx _ _) rfl rfl h.fire
  passStart h := by obtain rfl := h.twice; exact h.of_planes (frame_passStart fse _) rfl rfl (passStart_fireOk _)
  column := by
    rintro _ t pl cy cx ⟨rfl, hplanes, hfire⟩ hcy hcx
    exact ⟨rfl, fun p => planeOk_column (hplanes p) fse pl hcy hcx, column_fireOk hfire pl cy cx⟩

theorem frame_engineOk {s : State} (hplanes : ∀ p, PlaneOk s p) (hfire : s.FireOk) :
    EngineOk (frame fse s) (frame fse s) := engineOk_traversalRel.frame ⟨rfl, hplanes, hfire⟩

/-! ### The invariant at reset, and over the host's side of the port -/

/-- The fire state after reset, `CONSTRUCT` and `DESTROY`. -/
theorem fireOk_of_cleared {s : State} (hfire : s.fire = 0) (hstep : s.fireStep = 0) (hphase : s.phase = 0) :
    s.FireOk := by
  unfold State.FireOk
  rw [hfire, hstep, hphase]
  decide

/-- The table of R40 with memories that list nothing. -/
theorem inv_of_atReset {s : State} (h : s.AtReset) (hnf : s.nf = []) (hy : s.ym = []) (hb : s.cb = [])
    (hr : s.cr = []) : s.Inv := by
  obtain ⟨hready, hvalid, hfatal, -, hw, hh, hcw, hch, hp0, hp1, hp2, hp3, hctr, hkey, hfire, hstep, -, hphase, -⟩ := h
  have hparams : s.params = ⟨0, 0, 0, 0⟩ := by
    show (⟨s.params.rnd, s.params.edge, s.params.sat, s.params.noise⟩ : Params) = _
    rw [hp0, hp1, hp2, hp3]
  exact
    { flags := ⟨fun hi => absurd (hvalid.symm.trans hi) Bool.false_ne_true, fun _ => ⟨hready, hvalid⟩⟩
      dims := fun hi => absurd (hvalid.symm.trans hi) Bool.false_ne_true
      cleared := fun _ => ⟨hw, hh, hcw, hch, hparams, hctr, hkey⟩
      lattice := fun hi => absurd (hready.symm.trans hi) Bool.false_ne_true
      memory := memoryOk_of_nothing_listed (hnf ▸ List.Pairwise.nil) hy hb hr
      fire := fireOk_of_cleared hfire hstep hphase }

theorem resetBlock_inv (s : State) : s.resetBlock.Inv := inv_of_atReset (resetBlock_atReset s) rfl rfl rfl rfl

/-- What the host will deliver is in no clause of the table (log entry 11). -/
theorem bootWith_inv (events : List Event) : (bootWith events).Inv :=
  inv_of_atReset (resetBlock_atReset State.reset) rfl rfl rfl rfl

/-- Settles O58: a host that delivers nothing. -/
theorem invHoldsAtReset : Obligations.InvHoldsAtReset := bootWith_inv []

/-! ### Commands (R223 to R238) -/

theorem inv_errored {s : State} (h : s.Inv) (st : Status) : (s.errored st).Inv :=
  ⟨h.flags, h.dims, h.cleared, h.lattice, h.memory, h.fire⟩

theorem inv_answered {s : State} (h : s.Inv) (v : Word) : (s.answered v).Inv :=
  ⟨h.flags, h.dims, h.cleared, h.lattice, h.memory, h.fire⟩

/-- With an instance nothing is required to be cleared. -/
theorem clearedOk_of_instance {s : State} (h : s.instValid = true) : s.ClearedOk :=
  fun hi => absurd (h.symm.trans hi) (by decide)

/-- Out of `FATAL` the flags are legal if an instance has its lattice. -/
theorem flagsOk_of_not_fatal {s : State} (hf : s.fatal = false) (h : s.instValid = true → s.nfReady = true) :
    s.FlagsOk :=
  ⟨h, fun ht => absurd (hf.symm.trans ht) Bool.false_ne_true⟩

/-- The failed build enters `FATAL` with both other flags down. -/
theorem failedBuild_inv {s : State} (h : s.Inv) (hr : s.nfReady = false) : ({ s with fatal := true } : State).Inv :=
  { h with flags := ⟨h.flags.1, fun _ => ⟨hr, instValid_of_not_ready (s := s) h.flags hr⟩⟩ }

theorem nfBuild_inv {s : State} (h : s.Inv) (hf : s.fatal = false) :
    ({ nfBuild fse s with nfReady := true } : State).Inv :=
  { h with
    flags := flagsOk_of_not_fatal hf fun _ => rfl
    lattice := fun _ => rfl
    memory := (memoryOk_iff _).2 ⟨latticeTable_wf fse, ((memoryOk_iff s).1 h.memory).2⟩ }

theorem newInstance_inv {s : State} (h : s.Inv) (hs : s.FieldLive) {w h' : Word} (hd : LegalFrame w h') :
    (newInstance fse w.toNat h'.toNat s).Inv where
  flags := flagsOk_of_not_fatal hs.1 fun _ => hs.2
  dims _ := by
    obtain ⟨hw, hh, hcw, hch⟩ := newInstance_dims hd s
    obtain ⟨hw2, hwlo, hwhi, hh2, hhlo, hhhi⟩ := hd
    omega
  cleared := clearedOk_of_instance rfl
  lattice := h.lattice
  memory := memoryOk_of_nothing_listed h.memory.1 rfl rfl rfl
  fire := fireOk_of_cleared rfl rfl rfl

theorem dropInstance_inv {s : State} (h : s.Inv) (hs : s.Live) : (dropInstance s).Inv where
  flags := flagsOk_of_not_fatal hs.1 nofun
  dims := nofun
  cleared _ := ⟨rfl, rfl, rfl, rfl, rfl, rfl, rfl⟩
  lattice := h.lattice
  memory := memoryOk_of_nothing_listed h.memory.1 rfl rfl rfl
  fire := fireOk_of_cleared rfl rfl rfl

theorem setParam_inv {s : State} (h : s.Inv) (hs : s.Live) (p : Param) (v : Word) : (s.setParam p v).Inv := by
  have hcleared : (s.setParam p v).ClearedOk := clearedOk_of_instance (by simpa using hs.2)
  cases p <;> exact ⟨h.flags, h.dims, hcleared, h.lattice, h.memory, h.fire⟩

theorem writePlane_inv {s : State} (h : s.Inv) (hs : s.Live) {p : Plane} {y x : Nat} (v : Byte)
    (hx : x < s.planeWidth p) (hy : y < s.planeHeight p) : (s.writePlane p (s.pixelAddr p y x) v).Inv := by
  have hmemory : (s.writePlane p (s.pixelAddr p y x) v).MemoryOk := by
    obtain ⟨hnf, hplanes⟩ := (memoryOk_iff s).1 h.memory
    exact (memoryOk_iff _).2 ⟨by simpa using hnf, fun q => planeOk_writePlane v (hplanes q) (pixelAddr_lt hy hx)⟩
  have hcleared : (s.writePlane p (s.pixelAddr p y x) v).ClearedOk := clearedOk_of_instance (by simpa using hs.2)
  rcases p with _ | _ | _ <;> exact ⟨h.flags, h.dims, hcleared, h.lattice, hmemory, h.fire⟩

/-- The engine leaves the registers of the first clauses unchanged; with planes and fire state in order it keeps them
all. -/
theorem inv_of_engine {s t : State} (h : s.Inv) (hs : s.Live) (hf : EngineFrame s t) (hplanes : ∀ p, PlaneOk t p)
    (hfire : t.FireOk) : t.Inv where
  flags := by simpa only [State.FlagsOk, hf.instValid, hf.nfReady, hf.fatal] using h.flags
  dims := by simpa only [State.DimsOk, hf.instValid, hf.width, hf.height, hf.cw, hf.ch] using h.dims
  cleared := clearedOk_of_instance (hf.instValid.trans hs.2)
  lattice := by simpa only [State.LatticeOk, hf.nfReady, hf.nf] using h.lattice
  memory := (memoryOk_iff t).2 ⟨hf.nf ▸ h.memory.1, hplanes⟩
  fire := hfire

theorem frame_inv {s : State} (h : s.Inv) (hs : s.Live) : (frame fse s).Inv := by
  have hengine := frame_engineOk ((memoryOk_iff s).1 h.memory).2 h.fire
  exact inv_of_engine h hs (frame_frame fse s) hengine.planes hengine.fire

theorem rngAdvance_inv {s : State} (h : s.Inv) (hs : s.Live) : (rngAdvance s).Inv :=
  inv_of_engine h hs (frame_rngAdvance s) ((memoryOk_iff s).1 h.memory).2 h.fire

/-- A command that completes keeps the invariant. -/
theorem Completed.inv {s u : State} {i : Instr} {v : Word} (hc : Completed s i u v) (h : s.Inv) : u.Inv := by
  cases hc with
  | nop | nfbuildAgain | getp | rdpx | nfsample | nfread | rdcsr => exact h
  | nfbuild hf => exact nfBuild_inv h hf
  | shutdown => exact resetBlock_inv s
  | construct hs hd => exact newInstance_inv h hs hd
  | destroy hs => exact dropInstance_inv h hs
  | setp p v hs => exact setParam_inv h hs p v
  | process _ hs => exact frame_inv h hs
  | wrpx _ hs hx hy => exact writePlane_inv h hs _ hx hy
  | rngnext hs | rngunif hs | rngbound _ hs => exact rngAdvance_inv h hs

theorem exec_inv {i : Instr} {s t : State} (h : s.Inv) (hexec : exec i s = .next t) : t.Inv := by
  cases ends_of_exec hexec with
  | refused st => exact inv_errored h st
  | failedBuild _ _ hr => exact inv_errored (failedBuild_inv h hr) .errNomem
  | completed hc => exact inv_answered (hc.inv h) _

/-! ### Steps and runs -/

/-- The packet leaves the port. -/
theorem inv_of_port {s : State} (h : s.Inv) (rest : List Event) (b : Bool) :
    ({ s with inbox := rest, nfMemOk := b } : State).Inv :=
  ⟨h.flags, h.dims, h.cleared, h.lattice, h.memory, h.fire⟩

theorem step_inv {s t : State} (h : s.Inv) (hstep : step s = .next t) : t.Inv := by
  obtain ⟨-, hs⟩ | ⟨rest, -, hs⟩ | ⟨p, b, rest, i, -, -, hs⟩ | ⟨p, b, rest, e, -, -, hs⟩ := serve_cases exec s
  · obtain rfl : s = t := Host.Outcome.next.inj (hs.symm.trans hstep)
    exact h
  · obtain rfl := Host.Outcome.next.inj (hs.symm.trans hstep)
    exact resetBlock_inv _
  · exact exec_inv (inv_of_port h rest b) (hs.symm.trans hstep)
  · obtain rfl := Host.Outcome.next.inj (hs.symm.trans hstep)
    exact inv_errored (inv_of_port h rest b) .errIllegal

/-- Settles O59: a step is nothing, a reset, a command or the answer to an illegal packet, and each keeps the
invariant. -/
theorem stepKeepsInv : Obligations.StepKeepsInv := by
  unfold Obligations.StepKeepsInv
  exact fun s t => step_inv

theorem run_inv {k : Nat} {s t : State} (h : s.Inv) (hrun : Sys2Proof.core.run k s = .next t) : t.Inv := by
  induction k generalizing s with
  | zero =>
    obtain rfl : s = t := Host.Outcome.next.inj hrun
    exact h
  | succ k ih =>
    obtain ⟨u, hu⟩ := step_next s
    exact ih (step_inv h hu) ((run_succ k hu).symm.trans hrun)

theorem reachable_inv {s : State} (h : Reachable s) : s.Inv := by
  obtain ⟨events, k, hrun⟩ := h
  exact run_inv (bootWith_inv events) hrun

/-- Settles O60: a reachable state has the invariant; a lattice that is the table has its closed form. -/
theorem reachableStatesKeepTheRules : Obligations.ReachableStatesKeepTheRules := by
  unfold Obligations.ReachableStatesKeepTheRules
  intro s hs
  have h := reachable_inv hs
  refine ⟨h.flags.1, h.flags.2, fun hi => ?_, h.cleared, fun hr i hlt => ?_⟩
  · have hdims := h.dims hi
    omega
  · have hf : s.fatal = false := Bool.eq_false_iff.2 fun hf => Bool.eq_false_iff.1 (h.flags.2 hf).1 hr
    exact lattice_of_ready ⟨hf, hr⟩ h.lattice hlt

end Sys2Proof.Proofs
end

section
/-! The period of the noise field and the bound of its delta (spec/40_noise_field.md R107, spec/44_fire_engine.md R183),
the edge value (spec/43_detectors.md R160 to R162) and the draws of a pass and of a column (spec/44_fire_engine.md R188
to R195). -/

namespace Sys2Proof.Proofs

open Sys2Proof Sys2Proof.Machine Sys2Proof.Laws

/-! ### The period of the noise field (R107 ii) -/

/-- A lattice index is masked, so one lattice length further it is the same (R54). -/
theorem maskIndex_add_noiseLen (c : Config) (i : Nat) : maskIndex c (i + c.noiseLen) = maskIndex c i := by
  rw [maskIndex_eq_mod, maskIndex_eq_mod, Nat.add_mod_right]

/-- One period further the index is one lattice length further and the fraction is the same. -/
theorem sampleNum_add_period (c : Config) (L : Nat → Word) (coord sh : Nat) :
    sampleNum c L (coord + c.noiseLen * 2 ^ sh) sh = sampleNum c L coord sh := by
  simp only [sampleNum, Nat.add_mul_div_right _ _ (Nat.two_pow_pos sh), Nat.add_mul_mod_self_right,
    Nat.add_right_comm _ c.noiseLen 1, maskIndex_add_noiseLen]

/-- Settles O31: the coordinate enters a sample through the interpolated value alone. -/
theorem noiseFieldIsPeriodic : Obligations.NoiseFieldIsPeriodic := by
  unfold Obligations.NoiseFieldIsPeriodic
  intro c L coord sh an
  exact ⟨sampleNum_add_period c L coord sh, by rw [sampleQ16, sampleNum_add_period, ← sampleQ16]⟩

/-! ### The bound of the noise delta (R183) -/

/-- The delta is the sample, its sixteen fraction bits cut off (R105, R106). -/
theorem sampleDelta_eq (c : Config) (L : Nat → Word) (coord sh : Nat) (an : Int) :
    sampleDelta c L coord an sh = truncz (sampleQ16 c L coord an sh) 65536 := by
  rw [sampleQ16, truncz_truncz, Nat.mul_assoc]
  rfl

/-- The negative amplitude gives the mirror image. -/
theorem sampleDelta_neg (c : Config) (L : Nat → Word) (coord sh : Nat) (an : Int) :
    sampleDelta c L coord (-an) sh = -sampleDelta c L coord an sh := by
  rw [sampleDelta, mul_neg, truncz_neg, ← sampleDelta]

theorem sampleDelta_zero (c : Config) (L : Nat → Word) (coord sh : Nat) : sampleDelta c L coord 0 sh = 0 := by
  simp [sampleDelta, truncz]

/-- The sample of a positive amplitude is not negative and below it, and so is what the truncation leaves of it. -/
theorem sampleDelta_bounds (c : Config) (L : Nat → Word) (coord sh : Nat) {an : Int} (h : 0 < an) :
    0 ≤ sampleDelta c L coord an sh ∧ sampleDelta c L coord an sh ≤ an / 65536 ∧
      sampleDelta c L coord an sh * 65536 < an := by
  have hnonneg : 0 ≤ sampleQ16 c L coord an sh := truncz_nonneg (mul_nonneg (Int.natCast_nonneg _) h.le) _
  have hsize := sampleQ16_bound c L coord sh an
  have hcut : truncz (sampleQ16 c L coord an sh) 65536 = sampleQ16 c L coord an sh / 65536 := if_pos hnonneg
  rw [sampleDelta_eq, hcut]
  omega

/-- Settles O33: the bounds of a positive amplitude, mirrored for a negative one. -/
theorem noiseDeltaIsBounded : Obligations.NoiseDeltaIsBounded := by
  unfold Obligations.NoiseDeltaIsBounded
  refine fun c L coord sh an => ⟨sampleDelta_bounds c L coord sh, fun h => ?_, ?_⟩
  · obtain ⟨hlo, hhi, -⟩ := sampleDelta_bounds c L coord sh (Int.neg_pos.2 h)
    rw [sampleDelta_neg] at hlo hhi
    omega
  · rintro rfl
    exact sampleDelta_zero c L coord sh

/-! ### The edge value (R160 to R162) -/

theorem edgeValue_of_control_pos {s : State} {cx : Nat} (h : 0 < s.params.edge.toInt) (hcx : cx + 1 ≠ s.cw.toNat)
    (c : Config) (cy : Nat) :
    edgeValue c s cy cx = c.edgeLo * 2 ^ c.edgeNormLog2 + edgeDiff s cy cx * c.edgeSpan := if_pos ⟨h, hcx⟩

theorem edgeValue_of_last_column {s : State} {cx : Nat} (hcx : cx + 1 = s.cw.toNat) (c : Config) (cy : Nat) :
    edgeValue c s cy cx = 0 := if_neg fun h => h.2 hcx

/-- A block is four bytes (R53). -/
theorem lumaBlock_le (s : State) (y x : Nat) : lumaBlock s y x ≤ 1020 := by
  have h00 := (s.lumaAt y x).isLt
  have h01 := (s.lumaAt y (x + 1)).isLt
  have h10 := (s.lumaAt (y + 1) x).isLt
  have h11 := (s.lumaAt (y + 1) (x + 1)).isLt
  unfold lumaBlock
  omega

theorem edgeDiff_le (s : State) (cy cx : Nat) : edgeDiff s cy cx ≤ 1020 := by
  have hleft := lumaBlock_le s (2 * cy) (2 * cx)
  have hright := lumaBlock_le s (2 * cy) (2 * cx + 2)
  rw [edgeDiff, absDiff_eq]
  omega

theorem lumaBlock_cast (s : State) (y x : Nat) :
    (lumaBlock s y x : Int) =
      s.lumaValue y x + s.lumaValue y (x + 1) + s.lumaValue (y + 1) x + s.lumaValue (y + 1) (x + 1) := by
  unfold lumaBlock
  push_cast
  rfl

/-- Settles O43: the difference is that of two sums of four bytes, and the remap of a number up to 1020 is in the
range. -/
theorem edgeValueIsTheRemap : Obligations.EdgeValueIsTheRemap := by
  unfold Obligations.EdgeValueIsTheRemap
  refine ⟨fun c s cy cx h hcx => edgeValue_of_control_pos h hcx c cy,
    fun s cy cx => ⟨?diff, edgeDiff_le s cy cx, ?zero, ?remap⟩⟩
  case diff => rw [edgeDiff, absDiff, Int.natCast_natAbs, lumaBlock_cast, lumaBlock_cast]
  case zero =>
    rintro (h | h)
    · exact edgeValue_of_control_nonpos h fse cy cx
    · exact edgeValue_of_last_column h fse cy
  case remap =>
    intro h hcx
    have hvalue : edgeValue fse s cy cx = 19661 * 2 ^ 10 + edgeDiff s cy cx * 26214 :=
      edgeValue_of_control_pos h hcx fse cy
    have hdiff := edgeDiff_le s cy cx
    exact ⟨hvalue, by omega, by omega⟩

/-! ### The draws of a pass and of a column (R188, R194, R195) -/

/-- Settles O50: the pass draws its phase first; the column's two draws are those at the next two counts; the branch is
decided by `FIRE`, which the noise step does not touch, as it does not touch luma. -/
theorem passAndColumnDrawInOrder : Obligations.PassAndColumnDrawInOrder := by
  unfold Obligations.PassAndColumnDrawInOrder
  refine ⟨fun s => rfl, fun s hctr hkey => ?phase, fun c pl cy cx e s => ?ignition, fun c pl cy cx s => ⟨?flare, ?idle⟩⟩
  case phase =>
    rw [passStart_phase, rngRaw, hctr, hkey]
    decide
  case ignition =>
    have hsecond : rngRaw c (rngAdvance s) = c.rngMix ((s.rngCtr + 2) ^^^ s.rngKey) := by
      simp [rngRaw, mixAt, BitVec.add_assoc]
    rw [ignStep_eq, rngAdvance_rngAdvance, hsecond]
    rfl
  case flare => exact fun h => column_of_flare h pl cy cx
  case idle =>
    intro h
    rw [column_of_idle h, edgeValue_of_engineFrame (frame_noiseInject c pl cy cx s)]

end Sys2Proof.Proofs
end

section
/-! The traversal of one frame (spec/44_fire_engine.md R194 to R198): it is the while loop of R196, and it changes the
rows it processes alone. -/

namespace Sys2Proof.Proofs

open Sys2Proof Sys2Proof.Machine Sys2Proof.Laws

/-! ### The while loop (R196) -/

/-- The columns before the last, then the last. -/
theorem forColumns_succ_last (c : Config) (pl : Chroma) (cy n cx : Nat) (s : State) :
    forColumns c pl cy (n + 1) cx s =
      column c pl cy (cx + n) { forColumns c pl cy n cx s with cx := BitVec.ofNat 11 (cx + n) } := by
  induction n generalizing cx s with
  | zero => rfl
  | succ n ih =>
    rw [forColumns_succ, ih, Nat.add_assoc, Nat.add_comm 1 n]
    rfl

/-- The counted loop over the columns is the loop of the rule. -/
theorem columns_eq_forColumns (c : Config) (pl : Chroma) (cy n : Nat) (s : State) :
    columns c pl cy n s = forColumns c pl cy n 0 s := by
  induction n with
  | zero => rfl
  | succ n ih => rw [columns_succ, forColumns_succ_last, ih, Nat.zero_add]

theorem pass_eq_forPlane (c : Config) (pl : Chroma) (cy : Nat) (s : State) : pass c pl cy s = forPlane c cy pl s :=
  columns_eq_forColumns c pl cy _ _

/-- The body of the loop is the row pair at its row. -/
theorem rowPair_eq_body (c : Config) (cy : Nat) (s : State) :
    { [Chroma.cb, Chroma.cr].foldl (fun t pl => forPlane c cy pl t) { s with cy := BitVec.ofNat 11 cy } with
      cy := BitVec.ofNat 11 (cy + 2) } = rowPair c cy s := by
  rw [rowPair, pass_eq_forPlane, pass_eq_forPlane]
  rfl

/-- The loop at row `2k`, after `k` row pairs, does the remaining ones. -/
theorem whileRows_rowPairs (c : Config) (s : State) {fuel k : Nat} (hk : k ≤ pairCount s.ch.toNat)
    (hfuel : pairCount s.ch.toNat ≤ fuel + k) :
    whileRows c fuel (2 * k) (rowPairs c k s) = rowPairs c (pairCount s.ch.toNat) s := by
  have hpairs : pairCount s.ch.toNat = s.ch.toNat / 2 := rfl
  induction fuel generalizing k with
  | zero =>
    obtain rfl : k = pairCount s.ch.toNat := by omega
    rfl
  | succ fuel ih =>
    rw [whileRows, rowPair_eq_body, ← rowPairs_succ, (frame_rowPairs c k s).ch]
    split
    · exact ih (k := k + 1) (by omega) (by omega)
    · obtain rfl : k = pairCount s.ch.toNat := by omega
      rfl

/-- Settles O53: the counted loops stop where the condition of the while loop fails. -/
theorem frameIsTheWhileLoop : Obligations.FrameIsTheWhileLoop := by
  unfold Obligations.FrameIsTheWhileLoop
  intro c s fuel hfuel
  have hpairs : pairCount s.ch.toNat = s.ch.toNat / 2 := rfl
  exact (whileRows_rowPairs c { s with cy := 0 } (Nat.zero_le _) (by show pairCount s.ch.toNat ≤ _; omega)).symm

/-! ### The bytes a frame changes (R198) -/

theorem readPlane_setCx (s : State) (v : BitVec 11) (q : Plane) (a : Nat) :
    ({ s with cx := v } : State).readPlane q a = s.readPlane q a := readPlane_congr rfl rfl rfl rfl q a

theorem readPlane_setCy (s : State) (v : BitVec 11) (q : Plane) (a : Nat) :
    ({ s with cy := v } : State).readPlane q a = s.readPlane q a := readPlane_congr rfl rfl rfl rfl q a

/-- The start of a pass writes no plane (R194). -/
theorem readPlane_passStart (c : Config) (s : State) (pl : Chroma) (q : Plane) (a : Nat) :
    (passStart c { s with pl := pl }).readPlane q a = s.readPlane q a := readPlane_congr rfl rfl rfl rfl q a

/-- The columns of a pass change their own pixels of the row pair at most. -/
theorem columns_readPlane_other (c : Config) (pl : Chroma) (cy n : Nat) (s : State) (q : Plane) (a : Nat)
    (h : ∀ j y : Nat, j < n → y = cy ∨ y = cy + 1 → ¬ (q = .chroma pl ∧ a = y * s.cw.toNat + j)) :
    (columns c pl cy n s).readPlane q a = s.readPlane q a := by
  rw [columns_eq_forColumns]
  refine forColumns_readPlane_other c pl cy n 0 s q a fun j y hj hy => ?_
  rw [Nat.zero_add]
  exact h j y hj hy

/-- A pass changes its two rows of its plane at most. -/
theorem pass_readPlane_other (c : Config) (pl : Chroma) (cy : Nat) (s : State) (q : Plane) (a : Nat)
    (h : q = .chroma pl → a < cy * s.cw.toNat ∨ (cy + 2) * s.cw.toNat ≤ a) :
    (pass c pl cy s).readPlane q a = s.readPlane q a := by
  refine (columns_readPlane_other c pl cy _ _ q a ?_).trans (readPlane_passStart c s pl q a)
  rintro j y hj hy ⟨hq, ha⟩
  have hrow : (cy + 2) * s.cw.toNat = cy * s.cw.toNat + s.cw.toNat + s.cw.toNat := by ring
  have hnext : (cy + 1) * s.cw.toNat = cy * s.cw.toNat + s.cw.toNat := Nat.succ_mul ..
  have haddr : a = y * s.cw.toNat + j := ha
  have := h hq
  rcases hy with rfl | rfl <;> omega

theorem rowPair_readPlane_other (c : Config) (cy : Nat) (s : State) (q : Plane) (a : Nat)
    (h : a < cy * s.cw.toNat ∨ (cy + 2) * s.cw.toNat ≤ a) : (rowPair c cy s).readPlane q a = s.readPlane q a := by
  have hcw := (frame_pass c .cb cy { s with cy := BitVec.ofNat 11 cy }).cw
  calc (rowPair c cy s).readPlane q a
      = (pass c .cr cy (pass c .cb cy { s with cy := BitVec.ofNat 11 cy })).readPlane q a :=
        readPlane_setCy ..
    _ = (pass c .cb cy { s with cy := BitVec.ofNat 11 cy }).readPlane q a :=
        pass_readPlane_other c .cr cy _ q a fun _ => by rwa [hcw]
    _ = ({ s with cy := BitVec.ofNat 11 cy } : State).readPlane q a := pass_readPlane_other c .cb cy _ q a fun _ => h
    _ = s.readPlane q a := readPlane_setCy ..

/-- The first `n` row pairs change the first `2n` rows at most. -/
theorem rowPairs_readPlane_other (c : Config) (n : Nat) (s : State) (q : Plane) (a : Nat)
    (h : 2 * n * s.cw.toNat ≤ a) : (rowPairs c n s).readPlane q a = s.readPlane q a := by
  induction n with
  | zero => rfl
  | succ n ih =>
    have hbelow : 2 * n * s.cw.toNat ≤ a := le_trans (Nat.mul_le_mul_right _ (by omega)) h
    rw [rowPairs_succ, rowPair_readPlane_other, ih hbelow]
    rw [(frame_rowPairs c n s).cw]
    exact .inr h

theorem frame_readPlane_below (c : Config) (s : State) (q : Plane) (a : Nat)
    (h : 2 * (s.ch.toNat / 2) * s.cw.toNat ≤ a) : (frame c s).readPlane q a = s.readPlane q a :=
  (rowPairs_readPlane_other c _ { s with cy := 0 } q a h).trans (readPlane_setCy ..)

/-- What the engine changes at most, as one equation. -/
theorem eq_of_engineFrame {s t : State} (h : EngineFrame s t) :
    t = { s with cb := t.cb, cr := t.cr, rngCtr := t.rngCtr, fire := t.fire, fireStep := t.fireStep, ign := t.ign,
                 phase := t.phase, cy := t.cy, pl := t.pl, cx := t.cx } := by
  obtain ⟨⟩ := h
  cases t
  simp_all

theorem exec_process {s : State} (ft : Word) (hs : s.Live) :
    exec (.process ft) s = .next { frame fse s with outbox := ⟨0, 0⟩ :: s.outbox } := by
  show processAt fse s = _
  rw [processAt, admitInstance_of_live hs, complete_eq, (frame_frame fse s).outbox]

/-- Settles O20: the checks decide; an admitted `PROCESS` is the frame, whose changes stay in the rows it processes. -/
theorem processCompletesAndFrames : Obligations.ProcessCompletesAndFrames := by
  unfold Obligations.ProcessCompletesAndFrames
  refine fun s ft => ⟨admitInstance_of_fatal, admitInstance_of_no_instance, fun hs => ⟨_, exec_process ft hs,
    fun ft' => exec_process ft' hs, rfl, ?frame, fun a => ?luma, fun pl a ha => ?chroma, fun hch => ?none⟩⟩
  case frame =>
    have hframe := eq_of_engineFrame (frame_frame fse s)
    exact congrArg (fun t : State => { t with outbox := ⟨0, 0⟩ :: s.outbox }) hframe
  case luma =>
    have hf := frame_frame fse s
    simp only [State.readPlane, State.memory, hf.ym, hf.epoch]
  case chroma => exact frame_readPlane_below fse s (.chroma pl) a ha
  case none =>
    have hpairs : pairCount s.ch.toNat = 0 := Nat.div_eq_of_lt (by omega)
    have hframe : frame fse s = { s with cy := 0 } := by rw [frame, hpairs, rowPairs_zero]
    rw [hframe]
    exact ⟨rfl, rfl, rfl⟩

end Sys2Proof.Proofs
end

section
/-! What a frame does not read (spec/10_state.md R34, spec/43_detectors.md R162), and the frame with ignition off
(spec/44_fire_engine.md R183). -/

namespace Sys2Proof.Proofs

open Sys2Proof Sys2Proof.Machine Sys2Proof.Laws

/-! ### The loop registers are not read (R34) -/

/-- The state with other loop registers. -/
def withLoop (y x : BitVec 11) (pl : Chroma) (s : State) : State := { s with cy := y, pl := pl, cx := x }

section

variable (y x : BitVec 11) (l : Chroma) (c : Config) (pl : Chroma) (cy cx : Nat) (s : State)

theorem pixAdd2_withLoop (d : Int) : pixAdd2 pl cy cx d (withLoop y x l s) = withLoop y x l (pixAdd2 pl cy cx d s) := by
  cases pl <;> rfl

theorem noiseInject_withLoop : noiseInject c pl cy cx (withLoop y x l s) = withLoop y x l (noiseInject c pl cy cx s) := by
  unfold noiseInject
  rw [pixAdd2_withLoop, apply_ite (withLoop y x l)]
  rfl

theorem flareCont_withLoop : flareCont c pl cy cx (withLoop y x l s) = withLoop y x l (flareCont c pl cy cx s) := by
  unfold flareCont
  rw [pixAdd2_withLoop, pixAdd2_withLoop, apply_ite (withLoop y x l)]
  rfl

theorem ignStep_withLoop (e : Int) :
    ignStep c pl cy cx e (withLoop y x l s) = withLoop y x l (ignStep c pl cy cx e s) := by
  rw [ignStep_eq, ignStep_eq, apply_ite (withLoop y x l)]
  rfl

theorem column_withLoop : column c pl cy cx (withLoop y x l s) = withLoop y x l (column c pl cy cx s) := by
  unfold column
  simp only [noiseInject_withLoop, flareCont_withLoop, ignStep_withLoop]
  rw [apply_ite (withLoop y x l)]
  rfl

end

/-- Two states that differ in the loop registers at most. -/
def LoopSwap (s t : State) : Prop := ∃ y x pl, t = withLoop y x pl s

theorem loopSwap_traversalRel (c : Config) : TraversalRel c LoopSwap where
  dims := by rintro s _ ⟨y, x, l, rfl⟩; exact ⟨rfl, rfl⟩
  setCy := by rintro s _ v ⟨y, x, l, rfl⟩; exact ⟨v, x, l, rfl⟩
  setPl := by rintro s _ v ⟨y, x, l, rfl⟩; exact ⟨y, x, v, rfl⟩
  setCx := by rintro s _ v ⟨y, x, l, rfl⟩; exact ⟨y, v, l, rfl⟩
  passStart := by rintro s _ ⟨y, x, l, rfl⟩; exact ⟨y, x, l, rfl⟩
  column := by rintro s _ pl cy cx ⟨y, x, l, rfl⟩ - -; exact ⟨y, x, l, column_withLoop y x l c pl cy cx s⟩

/-! ### The fire registers are not read before a pass clears them (R34, R194) -/

/-- Two states that differ in the hidden working registers at most. -/
def HiddenSwap (s t : State) : Prop :=
  ∃ f d g ph y x pl, t = { s with fire := f, fireStep := d, ign := g, phase := ph, cy := y, pl := pl, cx := x }

theorem LoopSwap.hiddenSwap {s t : State} (h : LoopSwap s t) : HiddenSwap s t := by
  obtain ⟨y, x, l, rfl⟩ := h
  exact ⟨s.fire, s.fireStep, s.ign, s.phase, y, x, l, rfl⟩

/-- A pass sets the fire registers before it reads them. -/
theorem HiddenSwap.pass {s t : State} (h : HiddenSwap s t) (c : Config) (pl : Chroma) {cy : Nat}
    (hcy : cy + 1 < s.ch.toNat) : LoopSwap (pass c pl cy s) (pass c pl cy t) := by
  obtain ⟨f, d, g, ph, y, x, l, rfl⟩ := h
  have hstart : LoopSwap (passStart c { s with pl := pl })
      (passStart c { s with fire := f, fireStep := d, ign := g, phase := ph, cy := y, pl := pl, cx := x }) :=
    ⟨y, x, pl, rfl⟩
  exact (loopSwap_traversalRel c).columns pl hstart hcy (n := s.cw.toNat) le_rfl

theorem HiddenSwap.setCy {s t : State} (h : HiddenSwap s t) (v : BitVec 11) :
    HiddenSwap { s with cy := v } { t with cy := v } := by
  obtain ⟨f, d, g, ph, y, x, l, rfl⟩ := h
  exact ⟨f, d, g, ph, v, x, l, rfl⟩

theorem HiddenSwap.rowPair {s t : State} (h : HiddenSwap s t) (c : Config) {cy : Nat} (hcy : cy + 1 < s.ch.toNat) :
    HiddenSwap (rowPair c cy s) (rowPair c cy t) := by
  have hcb := (h.setCy (BitVec.ofNat 11 cy)).pass c .cb hcy
  refine HiddenSwap.setCy (hcb.hiddenSwap.pass c .cr ?_).hiddenSwap _
  rwa [(frame_pass c .cb cy { s with cy := BitVec.ofNat 11 cy }).ch]

theorem HiddenSwap.rowPairs {s t : State} (h : HiddenSwap s t) (c : Config) {n : Nat} (hn : n ≤ pairCount s.ch.toNat) :
    HiddenSwap (rowPairs c n s) (rowPairs c n t) := by
  induction n with
  | zero => exact h
  | succ n ih =>
    rw [rowPairs_succ, rowPairs_succ]
    refine (ih (Nat.le_of_succ_le hn)).rowPair c ?_
    rw [(frame_rowPairs c n s).ch]
    unfold pairCount at hn
    omega

theorem HiddenSwap.frame {s t : State} (h : HiddenSwap s t) (c : Config) : HiddenSwap (frame c s) (frame c t) := by
  have hch : t.ch = s.ch := by obtain ⟨f, d, g, ph, y, x, l, rfl⟩ := h; rfl
  have hrows := (h.setCy 0).rowPairs c (n := pairCount s.ch.toNat) le_rfl
  simpa only [Machine.frame, hch] using hrows

/-- Settles O56: the hidden registers are set before they are read, and luma is read by an edge value that is 0
anyway. -/
theorem frameIgnoresHiddenRegistersAndUnusedLuma : Obligations.FrameIgnoresHiddenRegistersAndUnusedLuma := by
  unfold Obligations.FrameIgnoresHiddenRegistersAndUnusedLuma
  refine ⟨fun s f d g ph y x pl => ?hidden, fun s m hedge => ?luma⟩
  case hidden =>
    have hswap : HiddenSwap s { s with fire := f, fireStep := d, ign := g, phase := ph, cy := y, pl := pl, cx := x } :=
      ⟨f, d, g, ph, y, x, pl, rfl⟩
    obtain ⟨_, _, _, _, _, _, _, hframe⟩ := hswap.frame fse
    rw [hframe]
    exact ⟨rfl, rfl, rfl⟩
  case luma =>
    have hframe : frame fse { s with ym := m } = withLuma m (frame fse s) := frame_withLuma fun cy cx _ _ => by
      rw [edgeValue_of_control_nonpos (s := withLuma m s) hedge, edgeValue_of_control_nonpos hedge]
    rw [hframe]
    exact ⟨rfl, rfl, rfl⟩

/-! ### Ignition off (R149, R183) -/

/-- The ignition controls are 0 and the noise control is not negative. -/
structure NoiseOnly (s : State) : Prop where
  rnd : s.params.rnd = 0
  edge : s.params.edge = 0
  sat : s.params.sat = 0
  noise : 0 ≤ s.params.noise.toInt

/-- The bound of R183 at the defaults: `NOISE_AMP` is 64. -/
def noiseBound (s : State) : Int := s.params.noise.toInt * 64 / 65536

theorem NoiseOnly.of_params {s t : State} (h : NoiseOnly s) (hp : t.params = s.params) : NoiseOnly t :=
  ⟨hp ▸ h.rnd, hp ▸ h.edge, hp ▸ h.sat, hp ▸ h.noise⟩

theorem noiseBound_of_params {s t : State} (hp : t.params = s.params) : noiseBound t = noiseBound s :=
  congrArg (fun p : Params => p.noise.toInt * 64 / 65536) hp

theorem NoiseOnly.noiseDelta_bounds {s : State} (h : NoiseOnly s) (cy cx : Nat) :
    0 ≤ noiseDelta fse s cy cx ∧ noiseDelta fse s cy cx ≤ noiseBound s := by
  have hamp : noiseAmplitude fse (s.control .noise) = s.params.noise.toInt * 64 := rfl
  rw [noiseDelta, hamp, noiseBound]
  rcases h.noise.eq_or_lt with hzero | hpos
  · rw [← hzero, zero_mul, sampleDelta_zero]
    decide
  · obtain ⟨hlo, hhi, -⟩ := sampleDelta_bounds fse s.lattice (noiseCoord s cy cx) fse.noiseShift
      (an := s.params.noise.toInt * 64) (by omega)
    exact ⟨hlo, hhi⟩

/-- A column without a flare then is its noise step and two draws. -/
theorem NoiseOnly.column_eq {s : State} (h : NoiseOnly s) (hfire : s.fire = 0) (pl : Chroma) (cy cx : Nat) :
    column fse pl cy cx s = { noiseInject fse pl cy cx s with rngCtr := s.rngCtr + 2 } := by
  have hidle : s.fire.toInt < fse.fireMin := by rw [hfire]; decide
  have hn := h.of_params (noiseInject_params s fse pl cy cx)
  have hedge := control_eq_zero (s := noiseInject fse pl cy cx s) (p := .edge) hn.edge
  rw [column_of_idle hidle, edgeValue_of_control_nonpos hedge.le,
    ignStep_of_controls_zero (c := fse) rfl (control_eq_zero hn.rnd) hedge (control_eq_zero hn.sat), noiseInject_rngCtr]

theorem NoiseOnly.columns_fire {s : State} (h : NoiseOnly s) (hfire : s.fire = 0) (pl : Chroma) (cy n : Nat) :
    (columns fse pl cy n s).fire = 0 := by
  induction n with
  | zero => exact hfire
  | succ n ih =>
    have hcol : NoiseOnly { columns fse pl cy n s with cx := BitVec.ofNat 11 n } :=
      h.of_params (frame_columns fse pl cy n s).params
    rw [columns_succ, hcol.column_eq ih]
    exact (noiseInject_fire ..).trans ih

/-! ### No draw is spared -/

theorem NoiseOnly.passContinuations_eq_zero {s : State} (h : NoiseOnly s) (pl : Chroma) (cy : Nat) :
    passContinuations fse pl cy s = 0 := by
  have hstart : NoiseOnly (passStart fse { s with pl := pl }) := h.of_params rfl
  have hdark (n : Nat) : ¬ (fse.fireMin : Int) ≤ (columns fse pl cy n (passStart fse { s with pl := pl })).fire.toInt := by
    rw [hstart.columns_fire rfl]
    decide
  simp [passContinuations, continuations, hdark]

theorem NoiseOnly.rowPairContinuations_eq_zero {s : State} (h : NoiseOnly s) (cy : Nat) :
    rowPairContinuations fse cy s = 0 := by
  have hcy : NoiseOnly { s with cy := BitVec.ofNat 11 cy } := h.of_params rfl
  have hcr := hcy.of_params (frame_pass fse .cb cy _).params
  rw [rowPairContinuations, hcy.passContinuations_eq_zero, hcr.passContinuations_eq_zero]

theorem NoiseOnly.frameContinuations_eq_zero {s : State} (h : NoiseOnly s) : frameContinuations fse s = 0 := by
  have hcy : NoiseOnly { s with cy := 0 } := h.of_params rfl
  rw [frameContinuations_eq, rowPairsContinuations]
  refine List.sum_eq_zero fun m hm => ?_
  obtain ⟨k, -, rfl⟩ := List.mem_map.1 hm
  exact (hcy.of_params (frame_rowPairs fse k _).params).rowPairContinuations_eq_zero (2 * k)

/-! ### Each byte is raised once, by at most the bound -/

/-- A byte is not lowered, and raised by at most `b`. -/
def Raised (b : Int) (u v : Byte) : Prop := u.toNat ≤ v.toNat ∧ (v.toNat : Int) ≤ u.toNat + b

theorem Raised.rfl {b : Int} (hb : 0 ≤ b) (u : Byte) : Raised b u u := ⟨le_rfl, by omega⟩

/-- Raised by nothing is the same byte. -/
theorem Raised.eq_of_zero {u v : Byte} (h : Raised 0 u v) : v = u := by
  obtain ⟨hle, hge⟩ := h
  exact BitVec.eq_of_toNat_eq (by omega)

/-- `PIX.ADD2` clamps both bytes of its column on their own. -/
theorem raised_pixAdd2 {b d : Int} (hd : 0 ≤ d) (hb : d ≤ b) (pl : Chroma) (cy cx : Nat) {s : State} (hcw : s.cw ≠ 0)
    (q : Plane) (a : Nat) : Raised b (s.readPlane q a) ((pixAdd2 pl cy cx d s).readPlane q a) := by
  by_cases h : q = .chroma pl ∧ (a = cy * s.cw.toNat + cx ∨ a = (cy + 1) * s.cw.toNat + cx)
  · obtain ⟨y, hy, rfl, rfl⟩ : ∃ y, (y = cy ∨ y = cy + 1) ∧ q = .chroma pl ∧ a = y * s.cw.toNat + cx := by
      obtain ⟨hq, ha | ha⟩ := h
      · exact ⟨cy, .inl rfl, hq, ha⟩
      · exact ⟨cy + 1, .inr rfl, hq, ha⟩
    have hsum := toNat_chromaAt_pixAdd2 pl y cy cx d s hcw hy
    rw [State.chromaAt, State.chromaAt, pixelAddr_chroma, pixelAddr_chroma, pixAdd2_cw] at hsum
    have hu := (s.readPlane (.chroma pl) (y * s.cw.toNat + cx)).isLt
    unfold Raised
    omega
  · rw [pixAdd2_readPlane_other pl cy cx d s h]
    exact .rfl (hd.trans hb) _

theorem NoiseOnly.noiseBound_nonneg {s : State} (h : NoiseOnly s) : 0 ≤ noiseBound s := by
  have := h.noise
  unfold noiseBound
  omega

theorem NoiseOnly.raised_column {s : State} (h : NoiseOnly s) (hfire : s.fire = 0) (pl : Chroma) (cy : Nat) {cx : Nat}
    (hcx : cx < s.cw.toNat) (q : Plane) (a : Nat) :
    Raised (noiseBound s) (s.readPlane q a) ((column fse pl cy cx s).readPlane q a) := by
  have hcw : s.cw ≠ 0 := fun hzero => by simp [hzero] at hcx
  have hplanes : (column fse pl cy cx s).readPlane q a = (noiseInject fse pl cy cx s).readPlane q a := by
    rw [h.column_eq hfire]
    exact readPlane_congr rfl rfl rfl rfl q a
  rw [hplanes]
  by_cases hnoise : s.params.noise = 0
  · rw [noiseInject_of_noise_zero hnoise]
    exact .rfl h.noiseBound_nonneg _
  · rw [noiseInject_of_noise_ne_zero hnoise]
    obtain ⟨hlo, hhi⟩ := h.noiseDelta_bounds cy cx
    exact raised_pixAdd2 hlo hhi pl cy cx hcw q a

/-- The columns of a pass have pixels of their own, so a byte is raised by one of them at most. -/
theorem NoiseOnly.raised_columns {s : State} (h : NoiseOnly s) (hfire : s.fire = 0) (pl : Chroma) (cy : Nat) {n : Nat}
    (hn : n ≤ s.cw.toNat) (q : Plane) (a : Nat) :
    Raised (noiseBound s) (s.readPlane q a) ((columns fse pl cy n s).readPlane q a) := by
  induction n with
  | zero => exact .rfl h.noiseBound_nonneg _
  | succ n ih =>
    have hf := (frame_columns fse pl cy n s).trans (frame_setCx _ (BitVec.ofNat 11 n))
    rw [columns_succ]
    by_cases hown : q = .chroma pl ∧ (a = cy * s.cw.toNat + n ∨ a = (cy + 1) * s.cw.toNat + n)
    · have hbefore : (columns fse pl cy n s).readPlane q a = s.readPlane q a := by
        refine columns_readPlane_other fse pl cy n s q a ?_
        rintro j y hj - ⟨-, rfl⟩
        rcases hown.2 with ha | ha <;> exact pixelAddr_ne_of_column_ne (by omega) (by omega) (by omega) ha
      have hcx : n < ({ columns fse pl cy n s with cx := BitVec.ofNat 11 n } : State).cw.toNat := by
        rw [hf.cw]
        exact hn
      have hraised := (h.of_params hf.params).raised_column (h.columns_fire hfire pl cy n) pl cy hcx q a
      rwa [readPlane_setCx, hbefore, noiseBound_of_params hf.params] at hraised
    · rw [column_readPlane_other _ _ _ _ _ _ _ (by rwa [hf.cw]), readPlane_setCx]
      exact ih (Nat.le_of_succ_le hn)

theorem NoiseOnly.raised_pass {s : State} (h : NoiseOnly s) (pl : Chroma) (cy : Nat) (q : Plane) (a : Nat) :
    Raised (noiseBound s) (s.readPlane q a) ((pass fse pl cy s).readPlane q a) := by
  have hstart : NoiseOnly (passStart fse { s with pl := pl }) := h.of_params rfl
  have hraised := hstart.raised_columns rfl pl cy (n := s.cw.toNat) le_rfl q a
  rwa [readPlane_passStart] at hraised

/-- The two passes of a row pair are over different planes. -/
theorem NoiseOnly.raised_rowPair {s : State} (h : NoiseOnly s) (cy : Nat) (q : Plane) (a : Nat) :
    Raised (noiseBound s) (s.readPlane q a) ((rowPair fse cy s).readPlane q a) := by
  have hcy : NoiseOnly { s with cy := BitVec.ofNat 11 cy } := h.of_params rfl
  have hparams := (frame_pass fse .cb cy { s with cy := BitVec.ofNat 11 cy }).params
  have hcb := hcy.raised_pass .cb cy q a
  have hcr := (hcy.of_params hparams).raised_pass .cr cy q a
  have hpair : (rowPair fse cy s).readPlane q a =
      (pass fse .cr cy (pass fse .cb cy { s with cy := BitVec.ofNat 11 cy })).readPlane q a := readPlane_setCy ..
  rw [hpair]
  by_cases hq : q = .chroma .cr
  · rw [pass_readPlane_other fse .cb cy _ q a (by subst hq; nofun), readPlane_setCy, noiseBound_of_params hparams] at hcr
    exact hcr
  · rw [pass_readPlane_other fse .cr cy _ q a fun h => absurd h hq]
    rwa [readPlane_setCy] at hcb

/-- The row pairs have rows of their own. -/
theorem NoiseOnly.raised_rowPairs {s : State} (h : NoiseOnly s) (n : Nat) (q : Plane) (a : Nat) :
    Raised (noiseBound s) (s.readPlane q a) ((rowPairs fse n s).readPlane q a) := by
  induction n with
  | zero => exact .rfl h.noiseBound_nonneg _
  | succ n ih =>
    have hf := frame_rowPairs fse n s
    rw [rowPairs_succ]
    rcases lt_or_ge a (2 * n * s.cw.toNat) with hbelow | hrow
    · rw [rowPair_readPlane_other fse (2 * n) _ q a (.inl (by rwa [hf.cw]))]
      exact ih
    · have hraised := (h.of_params hf.params).raised_rowPair (2 * n) q a
      rwa [rowPairs_readPlane_other fse n s q a hrow, noiseBound_of_params hf.params] at hraised

theorem NoiseOnly.raised_frame {s : State} (h : NoiseOnly s) (q : Plane) (a : Nat) :
    Raised (noiseBound s) (s.readPlane q a) ((frame fse s).readPlane q a) := by
  have hcy : NoiseOnly { s with cy := 0 } := h.of_params rfl
  have hraised := hcy.raised_rowPairs (pairCount s.ch.toNat) q a
  rwa [readPlane_setCy] at hraised

/-- Settles O55: each byte is raised once, by at most the bound, which is 0 with the noise off; no draw is spared. -/
theorem noiseOnlyFrameStaysInItsBound : Obligations.NoiseOnlyFrameStaysInItsBound := by
  unfold Obligations.NoiseOnlyFrameStaysInItsBound
  intro s ft hs hrnd hedge hsat hnoise
  have h : NoiseOnly s := ⟨hrnd, hedge, hsat, hnoise⟩
  have hread (q : Plane) (a : Nat) : ({ frame fse s with outbox := ⟨0, 0⟩ :: s.outbox } : State).readPlane q a =
      (frame fse s).readPlane q a := readPlane_congr rfl rfl rfl rfl q a
  refine ⟨_, exec_process ft hs, fun pl a => ?raised, fun hzero pl a => ?still, ?draws⟩
  case raised =>
    rw [hread]
    exact h.raised_frame (.chroma pl) a
  case still =>
    have hbound : noiseBound s = 0 := by rw [noiseBound, hzero]; decide
    rw [hread]
    exact (hbound ▸ h.raised_frame (.chroma pl) a).eq_of_zero
  case draws =>
    obtain ⟨draws, hdraws, hctr⟩ := draws_frame fse s
    rw [h.frameContinuations_eq_zero, Nat.mul_zero, Nat.add_zero] at hdraws
    subst hdraws
    exact hctr

end Sys2Proof.Proofs
end

section
/-! The text form, written and read (spec/30_encoding.md R77, R78): numbers and selectors are read back as they were
written, a line falls into the pieces it was put together from, and a line that assembles is a legal packet. -/

namespace Sys2Proof.Proofs

open Sys2Proof Sys2Proof.Machine Sys2Proof.Laws

/-! ### The characters of a piece -/

/-- A character that a piece of a line can hold: no blank, no comma, no start of a comment. -/
def isPieceChar (ch : Char) : Bool := ch != ';' && ch != ',' && !isBlank ch

/-- A mnemonic or an operand: not empty, and of such characters. -/
def isPiece (cs : List Char) : Bool := !cs.isEmpty && cs.all isPieceChar

/-- A text that starts like a number. -/
def startsWithDigit (cs : List Char) : Bool := cs.head?.any Char.isDigit

theorem isPiece_iff {cs : List Char} : isPiece cs = true ↔ cs ≠ [] ∧ ∀ ch ∈ cs, isPieceChar ch = true := by
  simp [isPiece]

theorem isPiece_cons {ch : Char} {cs : List Char} (h : isPieceChar ch = true) (hcs : isPiece cs = true) :
    isPiece (ch :: cs) = true := by
  rw [isPiece_iff] at hcs ⊢
  exact ⟨List.cons_ne_nil _ _, List.forall_mem_cons.2 ⟨h, hcs.2⟩⟩

/-- A digit is none of the characters with a meaning of their own. -/
theorem isPieceChar_of_digitValue {ch : Char} {d : Nat} (h : digitValue ch = some d) : isPieceChar ch = true := by
  have hne (x : Char) (hx : digitValue x = none) : ch ≠ x := fun heq => by simp [← heq, h] at hx
  simp [isPieceChar, isBlank, hne ';' (by decide), hne ',' (by decide), hne ' ' (by decide), hne '\t' (by decide)]

/-! ### Digits (R77) -/

/-- A digit is read as it is written, in either case. -/
theorem digitValue_digitChar : ∀ (upper : Bool), ∀ d < 16,
    digitValue (if upper then (Nat.digitChar d).toUpper else Nat.digitChar d) = some d := by decide

theorem readDigits_append (b acc : Nat) (l m : List Char) :
    readDigits b acc (l ++ m) = (readDigits b acc l).bind fun v => readDigits b v m := by
  induction l generalizing acc with
  | nil => rfl
  | cons ch l ih =>
    rw [List.cons_append, readDigits, readDigits]
    cases digitValue ch with
    | none => rfl
    | some d =>
      dsimp only
      split
      · exact ih _
      · rfl

theorem readDigits_zeros {b : Nat} (hb : 0 < b) (zeros : Nat) (l : List Char) :
    readDigits b 0 (List.replicate zeros '0' ++ l) = readDigits b 0 l := by
  have hzero : digitValue '0' = some 0 := by decide
  induction zeros with
  | zero => rfl
  | succ zeros ih => rw [List.replicate_succ, List.cons_append, readDigits, hzero]; simpa [hb] using ih

theorem readDigits_single {b d : Nat} (upper : Bool) (acc : Nat) (hd : d < b) (hb : b ≤ 16) :
    readDigits b acc [if upper then (Nat.digitChar d).toUpper else Nat.digitChar d] = some (acc * b + d) := by
  rw [readDigits, digitValue_digitChar upper d (by omega)]
  simp [hd, readDigits]

/-- The digits of a number are read back as the number. -/
theorem readDigits_digitsText (upper : Bool) {b : Nat} (hb : 1 < b) (hb16 : b ≤ 16) (n : Nat) :
    readDigits b 0 (digitsText upper b n) = some n := by
  induction n using Nat.strong_induction_on with
  | _ n ih =>
    rw [digitsText, Nat.toDigits_eq_if hb]
    by_cases hn : n < b
    · rw [if_pos hn]
      simpa using readDigits_single upper 0 hn hb16
    · have hprefix := ih (n / b) (Nat.div_lt_self (by omega) hb)
      have hlast := readDigits_single upper (n / b) (Nat.mod_lt n (by omega : 0 < b)) hb16
      rw [digitsText] at hprefix
      rw [Nat.div_add_mod'] at hlast
      rw [if_neg hn, List.map_append, readDigits_append, hprefix]
      exact hlast

/-- Everything that reads as a number is digits. -/
theorem digitValue_of_readDigits {b acc n : Nat} {cs : List Char} (h : readDigits b acc cs = some n) :
    ∀ ch ∈ cs, ∃ d, digitValue ch = some d := by
  induction cs generalizing acc with
  | nil => nofun
  | cons ch cs ih =>
    rw [readDigits] at h
    split at h
    case h_1 d hd =>
      split at h
      · exact List.forall_mem_cons.2 ⟨⟨d, hd⟩, ih h⟩
      · cases h
    case h_2 => cases h

/-- A numeral with leading zeros is read as its number, and is a piece. -/
theorem readNumeral_digitsText (upper : Bool) {b : Nat} (hb : 1 < b) (hb16 : b ≤ 16) (zeros n : Nat) :
    readNumeral b (List.replicate zeros '0' ++ digitsText upper b n) = some n ∧
      isPiece (List.replicate zeros '0' ++ digitsText upper b n) = true := by
  have hne : digitsText upper b n ≠ [] := by
    simp [digitsText]
  have hread := (readDigits_zeros (by omega : 0 < b) zeros _).trans (readDigits_digitsText upper hb hb16 n)
  refine ⟨?_, isPiece_iff.2 ⟨by simp [hne], fun ch hch => ?_⟩⟩
  · rw [readNumeral, if_neg (by simp [hne]), hread]
  · obtain ⟨d, hd⟩ := digitValue_of_readDigits hread ch hch
    exact isPieceChar_of_digitValue hd

/-- The characters of a decimal numeral. -/
theorem isDigit_of_mem_decimal {zeros n : Nat} {ch : Char}
    (h : ch ∈ List.replicate zeros '0' ++ digitsText false 10 n) : ch.isDigit = true := by
  rcases List.mem_append.1 h with h | h
  · rw [List.eq_of_mem_replicate h]
    decide
  · exact Nat.isDigit_of_mem_toDigits (b := 10) (n := n) (by decide) (by decide) (by simpa [digitsText] using h)

/-! ### Numbers and operand words (R77) -/

theorem readUnsigned_of_decimal {cs : List Char} (h : ∀ ch ∈ cs, ch.isDigit = true) :
    readUnsigned cs = readNumeral 10 cs := by
  unfold readUnsigned
  split
  · exact absurd (h 'x' (by simp)) (by decide)
  · rfl

/-- A written number is read back, is a piece, and starts with a digit. -/
theorem readUnsigned_of_numberText {n : Nat} {text : List Char} (h : NumberText n text) :
    readUnsigned text = some n ∧ isPiece text = true ∧ startsWithDigit text = true := by
  obtain ⟨zeros, rfl | ⟨upper, rfl⟩⟩ := h
  · obtain ⟨hread, hpiece⟩ := readNumeral_digitsText false (b := 10) (by decide) (by decide) zeros n
    have hdigit (ch : Char) := isDigit_of_mem_decimal (zeros := zeros) (n := n) (ch := ch)
    rw [readUnsigned_of_decimal hdigit]
    refine ⟨hread, hpiece, ?_⟩
    obtain ⟨ch, cs, hcs⟩ := List.exists_cons_of_ne_nil (isPiece_iff.1 hpiece).1
    rw [hcs, startsWithDigit, List.head?_cons, Option.any_some]
    exact hdigit ch (hcs ▸ List.mem_cons_self)
  · obtain ⟨hread, hpiece⟩ := readNumeral_digitsText upper (b := 16) (by decide) (by decide) zeros n
    exact ⟨hread, isPiece_cons (by decide) (isPiece_cons (by decide) hpiece), by simp [startsWithDigit]⟩

theorem readWord_of_number {text : List Char} (h : startsWithDigit text = true) {w : Word}
    (hread : readUnsigned text = some w.toNat) : readWord text = some w := by
  unfold readWord
  split
  · exact absurd h (by simp [startsWithDigit])
  · rw [hread]
    simp [w.isLt]

/-- The two's complement of a negative word is read back from its size. -/
theorem readWord_of_negative {w : Word} (h : w.toInt < 0) :
    readWord ('-' :: digitsText false 10 w.toInt.natAbs) = some w := by
  have hread := (readNumeral_digitsText false (b := 10) (by decide) (by decide) 0 w.toInt.natAbs).1
  have hsize : w.toInt.natAbs ≤ 2 ^ 31 := by have := BitVec.le_toInt w; omega
  have hneg : -(w.toInt.natAbs : Int) = w.toInt := by omega
  rw [List.replicate_zero, List.nil_append] at hread
  rw [readWord, hread]
  dsimp only
  rw [if_pos hsize, hneg, BitVec.ofInt_toInt]

theorem readWord_of_wordText {w : Word} {text : List Char} (h : WordText w text) :
    readWord text = some w ∧ isPiece text = true := by
  rcases h with h | ⟨h, rfl⟩
  · obtain ⟨hread, hpiece, hdigit⟩ := readUnsigned_of_numberText h
    exact ⟨readWord_of_number hdigit hread, hpiece⟩
  · have hpiece := (readNumeral_digitsText false (b := 10) (by decide) (by decide) 0 w.toInt.natAbs).2
    exact ⟨readWord_of_negative h, isPiece_cons (by decide) hpiece⟩

/-! ### Selectors (R77) -/

theorem readSelNumber_of_numberText {sel : Nat} {text : List Char} (hsel : SelFits sel) (h : NumberText sel text) :
    readSelNumber text = some sel := by
  rw [readSelNumber, (readUnsigned_of_numberText h).1]
  exact if_pos hsel

/-- No name starts with a digit, so a number is not read as a name. -/
theorem ofList_ne_of_startsWithDigit {text : List Char} (h : startsWithDigit text = true) {name : String}
    (hname : startsWithDigit name.toList = false) : String.ofList text ≠ name := by
  rintro rfl
  rw [String.toList_ofList, h] at hname
  cases hname

/-- A reader of selectors: it reads the names of a table, and what starts with a digit as a number. -/
structure ReadsSelectors (names : List (String × Nat)) (read : List Char → Option Nat) : Prop where
  name : ∀ e ∈ names, read e.1.toList = some e.2 ∧ isPiece e.1.toList = true
  number : ∀ text, startsWithDigit text = true → read text = readSelNumber text

theorem ReadsSelectors.read_of_selText {names : List (String × Nat)} {read : List Char → Option Nat}
    (hr : ReadsSelectors names read) {sel : Nat} (hsel : SelFits sel) {text : List Char} (h : SelText names sel text) :
    read text = some sel ∧ isPiece text = true := by
  rcases h with h | ⟨name, hmem, rfl⟩
  · obtain ⟨-, hpiece, hdigit⟩ := readUnsigned_of_numberText h
    exact ⟨(hr.number text hdigit).trans (readSelNumber_of_numberText hsel h), hpiece⟩
  · exact hr.name (name, sel) hmem

theorem readsSelectors_plane : ReadsSelectors planeNames readPlaneSel where
  name := by decide
  number text h := by
    unfold readPlaneSel
    split
    case h_4 => rfl
    all_goals exact absurd ‹String.ofList text = _› (ofList_ne_of_startsWithDigit h (by decide))

theorem readsSelectors_param : ReadsSelectors paramNames readParamSel where
  name := by decide
  number text h := by
    unfold readParamSel
    split
    case h_5 => rfl
    all_goals exact absurd ‹String.ofList text = _› (ofList_ne_of_startsWithDigit h (by decide))

theorem readsSelectors_register : ReadsSelectors registerNames readRegisterSel where
  name := by decide
  number text h := by
    unfold readRegisterSel
    split
    case h_14 => rfl
    all_goals exact absurd ‹String.ofList text = _› (ofList_ne_of_startsWithDigit h (by decide))

end Sys2Proof.Proofs
end

section
/-! Lines of the text form (spec/30_encoding.md R77, R78): how a line falls into its pieces, and what its pieces stand
for. -/

namespace Sys2Proof.Proofs

open Sys2Proof Sys2Proof.Machine Sys2Proof.Laws

/-! ### Blanks around a text -/

/-- A text that neither starts nor ends with a blank. -/
def Trimmed (cs : List Char) : Prop :=
  cs ≠ [] ∧ (∀ ch ∈ cs.head?, isBlank ch = false) ∧ ∀ ch ∈ cs.getLast?, isBlank ch = false

/-- A piece holds none of the characters with a meaning of their own. -/
theorem ne_of_mem_piece {cs : List Char} (h : isPiece cs = true) {x : Char} (hx : isPieceChar x = false) :
    ∀ ch ∈ cs, ch ≠ x := by
  rintro ch hch rfl
  exact absurd ((isPiece_iff.1 h).2 ch hch) (by simp [hx])

theorem ne_of_mem_spaces {n : Nat} {x : Char} (hx : ' ' ≠ x) : ∀ ch ∈ List.replicate n ' ', ch ≠ x :=
  fun _ hch => List.eq_of_mem_replicate hch ▸ hx

theorem isBlank_of_isPieceChar {ch : Char} (h : isPieceChar ch = true) : isBlank ch = false := by
  simp only [isPieceChar, Bool.and_eq_true, Bool.not_eq_true'] at h
  exact h.2

theorem trimmed_of_isPiece {cs : List Char} (h : isPiece cs = true) : Trimmed cs := by
  obtain ⟨hne, hchars⟩ := isPiece_iff.1 h
  exact ⟨hne, fun ch hch => isBlank_of_isPieceChar (hchars ch (List.mem_of_mem_head? hch)),
    fun ch hch => isBlank_of_isPieceChar (hchars ch (List.mem_of_mem_getLast? hch))⟩

/-- Between two trimmed texts anything may stand. -/
theorem Trimmed.append {a b : List Char} (ha : Trimmed a) (mid : List Char) (hb : Trimmed b) : Trimmed (a ++ mid ++ b) := by
  obtain ⟨ha0, hhead, -⟩ := ha
  obtain ⟨hb0, -, hlast⟩ := hb
  refine ⟨by simp [ha0], ?_, ?_⟩
  · rwa [List.append_assoc, List.head?_append_of_ne_nil _ ha0]
  · rwa [List.getLast?_append_of_ne_nil _ hb0]

theorem dropWhile_isBlank {cs : List Char} (h : ∀ ch ∈ cs.head?, isBlank ch = false) (n : Nat) :
    (List.replicate n ' ' ++ cs).dropWhile isBlank = cs := by
  rw [List.dropWhile_append_of_pos (by simp [isBlank])]
  cases cs with
  | nil => rfl
  | cons ch cs => exact List.dropWhile_cons_of_neg (by simp [h ch rfl])

/-- Spaces around a trimmed text are dropped. -/
theorem trim_spaces {cs : List Char} (h : Trimmed cs) (j k : Nat) :
    trim (List.replicate j ' ' ++ cs ++ List.replicate k ' ') = cs := by
  obtain ⟨hne, hhead, hlast⟩ := h
  have hleft : (List.replicate j ' ' ++ (cs ++ List.replicate k ' ')).dropWhile isBlank = cs ++ List.replicate k ' ' :=
    dropWhile_isBlank (by rwa [List.head?_append_of_ne_nil _ hne]) j
  have hright : (List.replicate k ' ' ++ cs.reverse).dropWhile isBlank = cs.reverse :=
    dropWhile_isBlank (by rwa [List.head?_reverse]) k
  rw [trim, List.append_assoc, hleft, List.reverse_append, List.reverse_replicate, hright, List.reverse_reverse]

/-! ### Operands between commas -/

theorem splitCommas_of_no_comma {a : List Char} (h : ∀ ch ∈ a, ch ≠ ',') : splitCommas a = [a] := by
  induction a with
  | nil => rfl
  | cons ch a ih =>
    obtain ⟨hch, ha⟩ := List.forall_mem_cons.1 h
    rw [splitCommas, if_neg (by simpa using hch), ih ha]

theorem splitCommas_append {a : List Char} (h : ∀ ch ∈ a, ch ≠ ',') (b : List Char) :
    splitCommas (a ++ ',' :: b) = a :: splitCommas b := by
  induction a with
  | nil => simp [splitCommas]
  | cons ch a ih =>
    obtain ⟨hch, ha⟩ := List.forall_mem_cons.1 h
    rw [List.cons_append, splitCommas, if_neg (by simpa using hch), ih ha]

/-- A piece with spaces before it holds no comma. -/
theorem spaced_piece_no_comma {o : List Char} (h : isPiece o = true) (n : Nat) :
    ∀ ch ∈ List.replicate n ' ' ++ o, ch ≠ ',' :=
  List.forall_mem_append.2 ⟨ne_of_mem_spaces (by decide), ne_of_mem_piece h (by decide)⟩

/-- Operands laid one after the other are found again, whatever the spaces before them. -/
theorem splitCommas_operandsText (gap : Nat) {ops : List (List Char)} (hne : ops ≠ [])
    (h : ∀ o ∈ ops, isPiece o = true) (n : Nat) :
    (splitCommas (List.replicate n ' ' ++ operandsText gap ops)).map trim = ops := by
  have htrim (n : Nat) {o : List Char} (ho : isPiece o = true) : trim (List.replicate n ' ' ++ o) = o := by
    simpa using trim_spaces (trimmed_of_isPiece ho) n 0
  induction ops generalizing n with
  | nil => exact absurd rfl hne
  | cons o ops ih =>
    obtain ⟨ho, hops⟩ := List.forall_mem_cons.1 h
    have hcomma := spaced_piece_no_comma ho n
    cases ops with
    | nil => rw [operandsText, splitCommas_of_no_comma hcomma, List.map_singleton, htrim n ho]
    | cons o' ops =>
      rw [operandsText, ← List.append_assoc, splitCommas_append hcomma, List.map_cons, htrim n ho,
        ih (List.cons_ne_nil _ _) hops]
      nofun

theorem trimmed_operandsText (gap : Nat) {ops : List (List Char)} (hne : ops ≠ []) (h : ∀ o ∈ ops, isPiece o = true) :
    Trimmed (operandsText gap ops) := by
  induction ops with
  | nil => exact absurd rfl hne
  | cons o ops ih =>
    obtain ⟨ho, hops⟩ := List.forall_mem_cons.1 h
    cases ops with
    | nil => exact trimmed_of_isPiece ho
    | cons o' ops =>
      have hall := (trimmed_of_isPiece ho).append (',' :: List.replicate gap ' ') (ih (List.cons_ne_nil _ _) hops)
      rw [operandsText]
      · simpa using hall
      · nofun

/-- No comment starts inside the operands. -/
theorem operandsText_no_comment (gap : Nat) {ops : List (List Char)} (h : ∀ o ∈ ops, isPiece o = true) :
    ∀ ch ∈ operandsText gap ops, ch ≠ ';' := by
  induction ops with
  | nil => nofun
  | cons o ops ih =>
    obtain ⟨ho, hops⟩ := List.forall_mem_cons.1 h
    cases ops with
    | nil => exact ne_of_mem_piece ho (by decide)
    | cons o' ops =>
      rw [operandsText]
      · simp only [List.forall_mem_append, List.forall_mem_cons]
        exact ⟨ne_of_mem_piece ho (by decide), by decide, ne_of_mem_spaces (by decide), ih hops⟩
      · nofun

/-! ### The pieces of a line -/

/-- What stands after the mnemonic: nothing, or a space and the operands. -/
def afterMnemonic (gap : Nat) (ops : List (List Char)) : List Char :=
  if ops = [] then [] else ' ' :: operandsText gap ops

theorem operandPieces_afterMnemonic (gap : Nat) {ops : List (List Char)} (h : ∀ o ∈ ops, isPiece o = true) :
    operandPieces (afterMnemonic gap ops) = ops := by
  unfold afterMnemonic
  split
  · subst_vars; rfl
  · have htrimmed := trimmed_operandsText gap ‹ops ≠ []› h
    have htrim : trim (' ' :: operandsText gap ops) = operandsText gap ops := by
      simpa using trim_spaces htrimmed 1 0
    rw [operandPieces, htrim, if_neg (by simp [htrimmed.1])]
    exact splitCommas_operandsText gap ‹ops ≠ []› h 1

/-- The mnemonic and what stands after it are trimmed, and no comment starts there. -/
theorem trimmed_body (gap : Nat) {m : List Char} {ops : List (List Char)} (hm : isPiece m = true)
    (h : ∀ o ∈ ops, isPiece o = true) : Trimmed (m ++ afterMnemonic gap ops) := by
  unfold afterMnemonic
  split
  · simpa using trimmed_of_isPiece hm
  · simpa using (trimmed_of_isPiece hm).append [' '] (trimmed_operandsText gap ‹ops ≠ []› h)

theorem body_no_comment (gap blanks : Nat) {m : List Char} {ops : List (List Char)} (hm : isPiece m = true)
    (h : ∀ o ∈ ops, isPiece o = true) :
    ∀ ch ∈ m ++ afterMnemonic gap ops ++ List.replicate blanks ' ', (ch != ';') = true := by
  have hafter : ∀ ch ∈ afterMnemonic gap ops, ch ≠ ';' := by
    unfold afterMnemonic
    split
    · nofun
    · exact List.forall_mem_cons.2 ⟨by decide, operandsText_no_comment gap h⟩
  simp only [bne_iff_ne, List.forall_mem_append]
  exact ⟨⟨ne_of_mem_piece hm (by decide), hafter⟩, ne_of_mem_spaces (by decide)⟩

theorem dropComment_append {body comment : List Char} (hbody : ∀ ch ∈ body, (ch != ';') = true)
    (hc : comment = [] ∨ ∃ rest, comment = ';' :: rest) : dropComment (body ++ comment) = body := by
  rw [dropComment, List.takeWhile_append_of_pos hbody]
  obtain rfl | ⟨rest, rfl⟩ := hc <;> simp

/-- The mnemonic ends where the first blank stands. -/
theorem span_mnemonic (gap : Nat) {m : List Char} (hm : isPiece m = true) (ops : List (List Char)) :
    (m ++ afterMnemonic gap ops).takeWhile (fun ch => !isBlank ch) = m ∧
    (m ++ afterMnemonic gap ops).dropWhile (fun ch => !isBlank ch) = afterMnemonic gap ops := by
  have hchars : ∀ ch ∈ m, (!isBlank ch) = true := fun ch hch => by
    rw [isBlank_of_isPieceChar ((isPiece_iff.1 hm).2 ch hch)]
    rfl
  rw [List.takeWhile_append_of_pos hchars, List.dropWhile_append_of_pos hchars]
  unfold afterMnemonic
  split <;> simp [isBlank]

/-- A line assembles to the command of its pieces. -/
theorem assemble_of_pieces (gap blanks : Nat) {m comment : List Char} {ops : List (List Char)} (hm : isPiece m = true)
    (h : ∀ o ∈ ops, isPiece o = true) (hc : comment = [] ∨ ∃ rest, comment = ';' :: rest) :
    assemble (String.ofList (m ++ afterMnemonic gap ops ++ List.replicate blanks ' ' ++ comment)) =
      commandOfText m ops := by
  have hbody : trim (m ++ afterMnemonic gap ops ++ List.replicate blanks ' ') = m ++ afterMnemonic gap ops := by
    simpa using trim_spaces (trimmed_body gap hm h) 0 blanks
  obtain ⟨htake, hdrop⟩ := span_mnemonic gap hm ops
  rw [assemble, String.toList_ofList, dropComment_append (body_no_comment gap blanks hm h) hc, hbody, htake,
    hdrop, operandPieces_afterMnemonic gap h]

/-! ### The command of the pieces -/

/-- The text of a command consists of pieces, and they stand for the command. -/
theorem commandOfText_of_commandText {i : Instr} (hi : WellFormed i) {mnemonic : String} {ops : List (List Char)}
    (h : CommandText i mnemonic ops) :
    commandOfText mnemonic.toList ops = some i ∧ isPiece mnemonic.toList = true ∧ ∀ o ∈ ops, isPiece o = true := by
  cases i with
  | nop | nfbuild | shutdown | destroy | rngnext | rngunif =>
    obtain ⟨rfl, rfl⟩ := h
    exact ⟨by decide, by decide, nofun⟩
  | process w | rngbound w | nfread w =>
    obtain ⟨rfl, a, ha, rfl⟩ := h
    obtain ⟨hra, hpa⟩ := readWord_of_wordText ha
    exact ⟨by simp [commandOfText, hra], by decide, by simp [hpa]⟩
  | construct w h' =>
    obtain ⟨rfl, a, b, ha, hb, rfl⟩ := h
    obtain ⟨hra, hpa⟩ := readWord_of_wordText ha
    obtain ⟨hrb, hpb⟩ := readWord_of_wordText hb
    exact ⟨by simp [commandOfText, hra, hrb], by decide, by simp [hpa, hpb]⟩
  | nfsample k m sh =>
    obtain ⟨rfl, a, b, d, ha, hb, hd, rfl⟩ := h
    obtain ⟨hra, hpa⟩ := readWord_of_wordText ha
    obtain ⟨hrb, hpb⟩ := readWord_of_wordText hb
    obtain ⟨hrd, hpd⟩ := readWord_of_wordText hd
    exact ⟨by simp [commandOfText, hra, hrb, hrd], by decide, by simp [hpa, hpb, hpd]⟩
  | setp sel v =>
    obtain ⟨rfl, n, a, hn, ha, rfl⟩ := h
    obtain ⟨hrn, hpn⟩ := readsSelectors_param.read_of_selText hi hn
    obtain ⟨hra, hpa⟩ := readWord_of_wordText ha
    exact ⟨by simp [commandOfText, hrn, hra], by decide, by simp [hpn, hpa]⟩
  | getp sel =>
    obtain ⟨rfl, n, hn, rfl⟩ := h
    obtain ⟨hrn, hpn⟩ := readsSelectors_param.read_of_selText hi hn
    exact ⟨by simp [commandOfText, hrn], by decide, by simp [hpn]⟩
  | wrpx sel x y v =>
    obtain ⟨rfl, n, a, b, d, hn, ha, hb, hd, rfl⟩ := h
    obtain ⟨hrn, hpn⟩ := readsSelectors_plane.read_of_selText hi hn
    obtain ⟨hra, hpa⟩ := readWord_of_wordText ha
    obtain ⟨hrb, hpb⟩ := readWord_of_wordText hb
    obtain ⟨hrd, hpd⟩ := readWord_of_wordText hd
    exact ⟨by simp [commandOfText, hrn, hra, hrb, hrd], by decide, by simp [hpn, hpa, hpb, hpd]⟩
  | rdpx sel x y =>
    obtain ⟨rfl, n, a, b, hn, ha, hb, rfl⟩ := h
    obtain ⟨hrn, hpn⟩ := readsSelectors_plane.read_of_selText hi hn
    obtain ⟨hra, hpa⟩ := readWord_of_wordText ha
    obtain ⟨hrb, hpb⟩ := readWord_of_wordText hb
    exact ⟨by simp [commandOfText, hrn, hra, hrb], by decide, by simp [hpn, hpa, hpb]⟩
  | rdcsr sel =>
    obtain ⟨rfl, n, hn, rfl⟩ := h
    obtain ⟨hrn, hpn⟩ := readsSelectors_register.read_of_selText hi hn
    exact ⟨by simp [commandOfText, hrn], by decide, by simp [hpn]⟩

theorem assemble_of_lineText {i : Instr} (hi : WellFormed i) {line : String} (h : LineText i line) :
    assemble line = some i := by
  obtain ⟨mnemonic, ops, gap, blanks, comment, htext, hc, rfl⟩ := h
  obtain ⟨hcommand, hm, hops⟩ := commandOfText_of_commandText hi htext
  exact (assemble_of_pieces gap blanks hm hops hc).trans hcommand

/-! ### What assembles is well formed (R76, R77) -/

theorem selFits_of_readSelNumber {cs : List Char} {sel : Nat} (h : readSelNumber cs = some sel) : SelFits sel := by
  unfold readSelNumber at h
  split at h
  · split at h
    · cases h; assumption
    · cases h
  · cases h

theorem selFits_of_readPlaneSel {cs : List Char} {sel : Nat} (h : readPlaneSel cs = some sel) : SelFits sel := by
  unfold readPlaneSel at h
  split at h
  case h_4 => exact selFits_of_readSelNumber h
  all_goals cases h; decide

theorem selFits_of_readParamSel {cs : List Char} {sel : Nat} (h : readParamSel cs = some sel) : SelFits sel := by
  unfold readParamSel at h
  split at h
  case h_5 => exact selFits_of_readSelNumber h
  all_goals cases h; decide

theorem selFits_of_readRegisterSel {cs : List Char} {sel : Nat} (h : readRegisterSel cs = some sel) : SelFits sel := by
  unfold readRegisterSel at h
  split at h
  case h_14 => exact selFits_of_readSelNumber h
  all_goals cases h; decide

/-- A command with a selector has it from a reader of selectors, which fits the field. -/
theorem wellFormed_of_commandOfText {mnemonic : List Char} {ops : List (List Char)} {i : Instr}
    (h : commandOfText mnemonic ops = some i) : WellFormed i := by
  unfold commandOfText at h
  split at h
  all_goals
    simp only [Option.pure_def, Option.bind_eq_bind, Option.bind_eq_some_iff, Option.some.injEq, reduceCtorEq] at h
  case h_6 =>
    obtain ⟨sel, hsel, v, -, rfl⟩ := h
    exact selFits_of_readParamSel hsel
  case h_7 =>
    obtain ⟨sel, hsel, rfl⟩ := h
    exact selFits_of_readParamSel hsel
  case h_9 =>
    obtain ⟨sel, hsel, x, -, y, -, v, -, rfl⟩ := h
    exact selFits_of_readPlaneSel hsel
  case h_10 =>
    obtain ⟨sel, hsel, x, -, y, -, rfl⟩ := h
    exact selFits_of_readPlaneSel hsel
  case h_16 =>
    obtain ⟨sel, hsel, rfl⟩ := h
    exact selFits_of_readRegisterSel hsel
  case h_4 => obtain ⟨w, -, v, -, rfl⟩ := h; trivial
  case h_14 => obtain ⟨k, -, a, -, sh, -, rfl⟩ := h; trivial
  case h_8 | h_13 | h_15 => obtain ⟨w, -, rfl⟩ := h; trivial
  all_goals subst h; trivial

/-- Settles O6: the pieces of a line are read back as they were written; a line that assembles is a well-formed
command. -/
theorem textLinesAreLegalPackets : Obligations.TextLinesAreLegalPackets := by
  unfold Obligations.TextLinesAreLegalPackets
  refine ⟨fun i line hi h => ?written, fun line p h => ?assembled, by decide⟩
  case written =>
    have hline := assemble_of_lineText hi h
    exact ⟨hline, by rw [packetOfLine, hline]⟩
  case assembled =>
    rw [packetOfLine] at h
    cases hline : assemble line with
    | none => rw [hline] at h; cases h
    | some i =>
      rw [hline] at h
      cases h
      exact ⟨i, rfl, decodeOfEncode i (wellFormed_of_commandOfText hline)⟩

end Sys2Proof.Proofs
end
